-- ==== Sys2Proof/Word.lean ====
section
/-!
DEFINITION. The word types of the part: the bytes and fields the fixture bus carries, and the fixed-size table type
in which the part's blocks keep their records.
-/

namespace Sys2Proof

/-- One byte of the fixture bus without its parity bit (R173). -/
abbrev Byte := BitVec 8

/-- A two-byte field of a request frame (R184). -/
abbrev Half := BitVec 16

/-- A raw word or a tag word (R43, R187). -/
abbrev Word := BitVec 32

/-- A 7-bit source id (R176). -/
abbrev SourceId := BitVec 7

/-- A set of slots 0–23: bit k is slot k (R188). -/
abbrev SlotSet := BitVec 24

/-- A table of exactly `n` records, numbered from 0. The operations on it are in Machine/Tables.lean. -/
structure Table (α : Type) (n : Nat) where
  entries : List α
  size_eq : entries.length = n
deriving DecidableEq, Repr

end Sys2Proof
end

