-- ==== Sys2Proof/Config.lean ====
section
/-!
DEFINITION. What the part fixes: the sizes of its tables and the values its settings and classes have after device
reset. The spec leaves no result of a command open, so there is no free value here.
-/

namespace Sys2Proof.Config

/-- Slots 0–23 (R18). -/
abbrev slots : Nat := 24

/-- Link ids 0–511 (R1). -/
abbrev linkIds : Nat := 512

/-- Endpoints 0–767 of either space: slot × 32 + lane (R104, R119). -/
abbrev endpoints : Nat := 768

/-- The Finding Queue holds up to 64 findings (R163). -/
abbrev queueCapacity : Nat := 64

/-- A frame's payload and a reply's payload hold at most 128 bytes (R176, R182). -/
abbrev maxPayload : Nat := 128

/-- Target address with both straps low (R174). -/
abbrev targetBase : BitVec 7 := 0x5C

end Sys2Proof.Config
end

