-- ==== Sys2Proof/Syntax.lean ====
section
/-!
DEFINITION. The commands the part takes: one constructor per row of spec/opcode_table.json. A request carries its
requester and its payload fields at the widths of R184, so that every value the bus can carry is an operand.
-/

namespace Sys2Proof

/-- Who sends a request and how: the source id of the frame and the check flag of its request byte (R176). -/
structure Requester where
  source : SourceId
  check  : Bool
deriving DecidableEq, Repr

/-- One lane record of a REPORT (R87, R187): `lane` is bits 4–0 of record byte 0, `skew` the two bytes 13–14. -/
structure LaneRecord where
  lane   : BitVec 5
  lock   : Bool
  raw    : Word
  units  : Word
  errors : Word
  skew   : Half
deriving DecidableEq, Repr

/-- The payload of SET LINK as the frame carries it (R184). -/
structure LinkFields where
  id     : Half
  txSlot : Byte
  txBase : Byte
  rxSlot : Byte
  rxBase : Byte
  width  : Byte
  cls    : Byte
  flags  : Byte
  budget : Byte
deriving DecidableEq, Repr

/-- The payload of SET TIMING as the frame carries it (R184). -/
structure TimingFields where
  period    : Half
  arming    : Half
  window    : Half
  measure   : Half
  allowance : Byte
  stops     : Byte
deriving DecidableEq, Repr

/-- The commands. A bus byte comes with its nine bits (R173): eight data bits and the parity bit. -/
inductive Instr where
  | deviceReset
  | transactionStart
  | repeatedStart
  | stop
  | addressByte (data : Byte) (parity : Bool)
  | writeByte (data : Byte) (parity : Bool)
  | excessByte (data : Byte) (parity : Bool)
  | unknownRequest (rq : Requester) (code : BitVec 7) (payload : List Byte)
  | enrol (rq : Requester) (slot lanes : Byte)
  | leave (rq : Requester)
  | fetchDrives (rq : Requester) (page : Byte)
  | ready (rq : Requester)
  | report (rq : Requester) (slot : Byte) (epoch : Half) (group count : Byte) (records : List LaneRecord)
  | hold (rq : Requester) (h : Byte)
  | quiet (rq : Requester)
  | status (rq : Requester)
  | setLink (rq : Requester) (fields : LinkFields)
  | dropLink (rq : Requester) (id : Half)
  | getLink (rq : Requester) (id : Half)
  | clearPlan (rq : Requester)
  | setClass (rq : Requester) (cls qreq band : Byte)
  | getClass (rq : Requester) (cls : Byte)
  | setTiming (rq : Requester) (fields : TimingFields)
  | getTiming (rq : Requester)
  | start (rq : Requester)
  | abort (rq : Requester)
  | continueSweep (rq : Requester)
  | clearHalt (rq : Requester)
  | resetCampaign (rq : Requester)
  | getSlot (rq : Requester) (slot : Byte)
  | releaseSlot (rq : Requester) (slot : Byte)
  | getObservation (rq : Requester) (rx : Half)
  | getHearers (rq : Requester) (tx : Half)
  | getVerdict (rq : Requester) (id : Half)
  | peekFinding (rq : Requester)
  | releaseFinding (rq : Requester) (seq : Half)
  | epochTimerExpiry
  | linkEvaluationStep
  | unplannedScanStep
  | replyByte (masterAck : Bool)
  | resetnRelease (addr1 addr0 : Bool)
deriving DecidableEq, Repr

end Sys2Proof
end

