-- ==== Sys2Proof/WellFormed.lean ====
section
/-!
DEFINITION. Which commands a master can put on the bus: the payload of a request must fit the one-byte length field
of its frame (R176), and UNKNOWN_REQUEST stands for codes outside the catalogue (R181). Every other operand is held to
its range by its type.
-/

namespace Sys2Proof

/-- The request codes of the catalogue (R184). -/
def catalogueCodes : List (BitVec 7) :=
  [0x01, 0x02, 0x03, 0x04, 0x05, 0x06, 0x07, 0x10, 0x20, 0x21, 0x22, 0x23, 0x24, 0x25, 0x26, 0x27,
   0x30, 0x31, 0x32, 0x33, 0x34, 0x40, 0x41, 0x42, 0x43, 0x44, 0x48, 0x49]

/-- A length byte counts at most 255 payload bytes (R176). -/
def Instr.payloadFits (n : Nat) : Bool := n ≤ 255

/-- A command that some sequence of bus events can spell. -/
def Instr.wellFormed : Instr → Bool
  | .unknownRequest _ code payload => !catalogueCodes.contains code && Instr.payloadFits payload.length
  | .report _ _ _ _ _ records => Instr.payloadFits (5 + 15 * records.length)
  | _ => true

/-- The predicate of `Instr.wellFormed`. -/
abbrev Instr.WellFormed (i : Instr) : Prop := i.wellFormed = true

end Sys2Proof
end

