-- ==== Sys2Proof/Decode.lean ====
section
/-!
DEFINITION. The decoder over the rows of spec/opcode_table.json that give bits. No row of this part's table gives
bits (each row's list of fields is empty), so no word spells a command. How bytes on the fixture bus come to be a
request is the behaviour of the Fixture Bus Port and stands in Machine/Port.lean and Machine/Routing.lean.
-/

namespace Sys2Proof

/-- The command a word of `nbits` bits spells by the table's bits: none, for every word. -/
def decodeTableWord (_nbits _w : Nat) : Option Instr := none

end Sys2Proof
end

