-- ==== Sys2Proof/Machine/Tables.lean ====
section
/-!
DEFINITION. The operations over a table of `n` records, and the byte-order helpers: every number on the fixture bus
is sent most significant byte first (R184, R189).
-/

namespace Sys2Proof

/-- Map over a list with the index of each entry, counting from `i`. -/
def mapFrom {α β : Type} (f : Nat → α → β) : Nat → List α → List β
  | _, [] => []
  | i, a :: l => f i a :: mapFrom f (i + 1) l

theorem mapFrom_length {α β : Type} (f : Nat → α → β) (i : Nat) (l : List α) :
    (mapFrom f i l).length = l.length := by
  induction l generalizing i with
  | nil => rfl
  | cons a l ih => simp [mapFrom, ih]

/-- The table with the same record everywhere. -/
def Table.replicate {α : Type} (n : Nat) (a : α) : Table α n :=
  ⟨List.replicate n a, List.length_replicate⟩

/-- Record `i`; outside the table, the default record. -/
def Table.get {α : Type} [Inhabited α] {n : Nat} (t : Table α n) (i : Nat) : α :=
  t.entries.getD i default

/-- Replace record `i`; outside the table, nothing changes. -/
def Table.set {α : Type} {n : Nat} (t : Table α n) (i : Nat) (a : α) : Table α n :=
  ⟨t.entries.set i a, by rw [List.length_set]; exact t.size_eq⟩

/-- Change every record. -/
def Table.map {α β : Type} {n : Nat} (f : α → β) (t : Table α n) : Table β n :=
  ⟨t.entries.map f, by rw [List.length_map]; exact t.size_eq⟩

/-- Change every record, knowing its number. -/
def Table.mapIdx {α β : Type} {n : Nat} (f : Nat → α → β) (t : Table α n) : Table β n :=
  ⟨mapFrom f 0 t.entries, by rw [mapFrom_length]; exact t.size_eq⟩

/-- How many records meet `p`. -/
def Table.count {α : Type} {n : Nat} (p : α → Bool) (t : Table α n) : Nat := t.entries.countP p

/-- The lowest number, counting from `i`, of an entry that meets `p`. -/
def firstFrom {α : Type} (p : Nat → α → Bool) : Nat → List α → Option Nat
  | _, [] => none
  | i, a :: l => if p i a then some i else firstFrom p (i + 1) l

/-- The lowest number of a record that meets `p`. -/
def Table.first {α : Type} {n : Nat} (p : Nat → α → Bool) (t : Table α n) : Option Nat :=
  firstFrom p 0 t.entries

/-- `k` bytes of a number, most significant first. -/
def be : Nat → Nat → List Byte
  | 0, _ => []
  | k + 1, n => BitVec.ofNat 8 (n / 256 ^ k) :: be k n

/-- Byte `i` of a payload. -/
def byteAt (p : List Byte) (i : Nat) : Byte := p.getD i 0

/-- The two-byte field at byte `i` of a payload. -/
def halfAt (p : List Byte) (i : Nat) : Half := byteAt p i ++ byteAt p (i + 1)

/-- The four-byte field at byte `i` of a payload. -/
def wordAt (p : List Byte) (i : Nat) : Word := halfAt p i ++ halfAt p (i + 2)

/-- The two bytes of a two-byte field. -/
def halfBytes (h : Half) : List Byte := [h.extractLsb' 8 8, h.extractLsb' 0 8]

/-- The four bytes of a four-byte field. -/
def wordBytes (w : Word) : List Byte := halfBytes (w.extractLsb' 16 16) ++ halfBytes (w.extractLsb' 0 16)

end Sys2Proof
end

