-- ==== Sys2Proof/Machine/State.lean ====
section
/-!
DEFINITION. The state of the part as plain data, block by block as the spec gives it, with the value of every item
after device reset.
-/

namespace Sys2Proof.Machine

-- ==== The Wiring Plan (R1, R4) ====

/-- Loss classes (R1). -/
inductive LossClass where
  | a | b | c | d
deriving DecidableEq, Repr, Inhabited

/-- A link record, kept under its id in the link table (R1). -/
structure Link where
  txSlot    : Nat
  txBase    : Nat
  rxSlot    : Nat
  rxBase    : Nat
  width     : Nat
  lossClass : LossClass
  reversal  : Bool
  polarity  : Bool
  budget    : Option Nat
deriving DecidableEq, Repr, Inhabited

/-- A loss-class record (R4). -/
structure ClassRecord where
  qreq : Nat
  band : Nat
deriving DecidableEq, Repr, Inhabited

/-- The four loss-class records, one for each class (R4). -/
structure ClassTable where
  a : ClassRecord := { qreq := 36, band := 2 }
  b : ClassRecord := { qreq := 33, band := 2 }
  c : ClassRecord := { qreq := 30, band := 2 }
  d : ClassRecord := { qreq := 27, band := 2 }
deriving DecidableEq, Repr

-- ==== The Slot Roster (R18, R93) ====

/-- Roster states, in the order of R18. -/
inductive RosterState where
  | empty | enrolled | conflict | ready | active | excluded | lost
deriving DecidableEq, Repr, Inhabited

/-- A slot record (R18). The field values written here are those of an EMPTY record. -/
structure SlotRecord where
  state          : RosterState := .empty
  source         : Option SourceId := none
  claimant       : Option SourceId := none
  lanes          : Option Nat := none
  participating  : Bool := false
  pages          : BitVec 2 := 0
  missed         : Nat := 0
  activated      : Bool := false
  lostByConflict : Bool := false
  holdCharged    : Nat := 0
  quietOwed      : Bool := false
  quietAcked     : Bool := false
deriving DecidableEq, Repr, Inhabited

/-- The report window of a slot (R93): what was taken for the epoch whose reports are admitted. -/
structure ReportWindow where
  groups : BitVec 4 := 0
  lanes  : BitVec 32 := 0
deriving DecidableEq, Repr, Inhabited

-- ==== The Epoch Sequencer (R55, R83) ====

/-- The phase CONTINUE enters (R55). -/
inductive ResumePhase where
  | settle | measure | reduce
deriving DecidableEq, Repr

/-- The state the sweep halted from (R55). -/
inductive HaltOrigin where
  | aborting | reduce
deriving DecidableEq, Repr

/-- Sweep states (R55). The resume phase is present exactly in STOPPED (R69) and the halt origin exactly in HALTED
(R75, R77), so each stands in its state. -/
inductive SweepState where
  | idle | arming | settle | measure
  | stopped (resume : ResumePhase)
  | reduce | aborting
  | halted (origin : HaltOrigin)
  | done | aborted
deriving DecidableEq, Repr

/-- The epoch timer (R55, R57): RUNNING with the period in ms it was last loaded with. -/
inductive EpochTimer where
  | running (loadedMs : Nat) | suspended | haltedOff
deriving DecidableEq, Repr

/-- State of the call on probes to go quiet (R55). -/
inductive QuietCall where
  | notStarted | pending | complete
deriving DecidableEq, Repr

/-- The sequencer's record of the Verdict Engine's pass (R55). -/
inductive Evaluation where
  | notStarted | running | complete | stopped
deriving DecidableEq, Repr

/-- Why the sweep was aborted (R55). -/
inductive AbortCause where
  | none | station | noneReady | allLost
deriving DecidableEq, Repr

/-- What the sequencer holds but for the settings (R55); the values are those of R86. -/
structure Sequencer where
  sweep         : SweepState := .idle
  epoch         : Nat := 0
  s0            : Option Nat := none
  m0            : Option Nat := none
  reduceStart   : Option Nat := none
  closing       : Option Nat := none
  timer         : EpochTimer := .haltedOff
  hold          : Nat := 0
  quietCall     : QuietCall := .notStarted
  quietDeadline : Option Nat := none
  evaluation    : Evaluation := .notStarted
  abortCause    : AbortCause := .none
  haltSlots     : SlotSet := 0
deriving DecidableEq, Repr

/-- Timing settings and stop points (R83); the values are the defaults. -/
structure Timing where
  period      : Nat := 100
  arming      : Nat := 50
  window      : Nat := 32
  measure     : Nat := 100
  allowance   : Nat := 8
  stopArming  : Bool := false
  stopSettle  : Bool := false
  stopMeasure : Bool := false
deriving DecidableEq, Repr

-- ==== The Observation Table and the Hearing Table (R104, R119) ====

/-- Settled classes, in the order of R104. -/
inductive SettledClass where
  | direct | inverted | stale
deriving DecidableEq, Repr, Inhabited

/-- What a settled record fixes: class, word and heard endpoint, present together (R104). -/
structure Settled where
  cls   : SettledClass
  word  : Word
  heard : Nat
deriving DecidableEq, Repr

/-- The link and lane index whose rx span holds an endpoint (R104). -/
structure PlannedLane where
  link : Nat
  lane : Nat
deriving DecidableEq, Repr

/-- An observation record (R104). Settled is yes exactly when `settled` is present. The values are those of R123. -/
structure Observation where
  planned         : Option PlannedLane := none
  lockRun         : Nat := 0
  candidate       : Option Word := none
  settled         : Option Settled := none
  lockSeen        : Bool := false
  validSeen       : Bool := false
  garbledSeen     : Bool := false
  dropouts        : Nat := 0
  gaps            : Nat := 0
  units           : Nat := 0
  unitsSaturated  : Bool := false
  errors          : Nat := 0
  errorsSaturated : Bool := false
  skewSum         : Int := 0
  skewCount       : Nat := 0
deriving DecidableEq, Repr, Inhabited

/-- A hearers record (R119): receive endpoints in the order they settled. -/
structure Hearers where
  list     : List Nat := []
  overflow : Bool := false
deriving DecidableEq, Repr, Inhabited

-- ==== The Verdict Engine, the Verdict Table and the Finding Queue (R139, R151, R162) ====

/-- NOT_EVALUATED, the verdicts of R150 in the order of their ranks, and UNPLANNED (R162). -/
inductive Verdict where
  | notEvaluated
  | untested | open | garbled | bridged | misrouted | order | stale | unstable | polarity | errors | skew
  | unproven | marginal | pass
  | unplanned
deriving DecidableEq, Repr, Inhabited

/-- Untested reasons, in the order of R151. -/
inductive UntestedReason where
  | noRxProbe | noTxProbe | rxLaneAbsent | txLaneAbsent | rxLost
deriving DecidableEq, Repr

/-- The notes of a link (R152). -/
structure Notes where
  reversed   : Bool := false
  invertedOk : Bool := false
  saturated  : Bool := false
deriving DecidableEq, Repr, Inhabited

/-- A verdict record (R151); the values are those of NOT_EVALUATED. -/
structure VerdictRecord where
  verdict   : Verdict := .notEvaluated
  worstLane : Nat := 0
  reason    : Option UntestedReason := none
  margin    : Option Nat := none
  skew      : Option Nat := none
  notes     : Notes := {}
deriving DecidableEq, Repr, Inhabited

/-- Finding kinds (R162). -/
inductive FindingKind where
  | link | unplanned
deriving DecidableEq, Repr

/-- A heard endpoint and its class (R162). -/
structure Heard where
  endpoint : Nat
  cls      : SettledClass
deriving DecidableEq, Repr

/-- A finding as the Verdict Engine forms it, without the number it is given at push (R162). -/
structure Finding where
  kind    : FindingKind
  linkId  : Option Nat
  rx      : Nat
  verdict : Verdict
  heard   : Option Heard
  margin  : Option Nat
  skew    : Option Nat
  notes   : Notes
deriving DecidableEq, Repr

/-- A finding in the queue, with its sequence number (R162, R164). -/
structure QueuedFinding where
  seq     : Nat
  finding : Finding
deriving DecidableEq, Repr

/-- Stages of the evaluation cursor (R139). -/
inductive Stage where
  | notStarted | links | unplanned | complete | stopped
deriving DecidableEq, Repr

/-- The evaluation cursor (R139). Waiting is yes exactly when a pending finding is present. -/
structure Cursor where
  stage          : Stage := .notStarted
  position       : Option Nat := none
  pendingFinding : Option Finding := none
deriving DecidableEq, Repr

-- ==== The Fixture Bus Port and the lines of the part (R173–R182) ====

/-- Result codes (R185). -/
inductive Result where
  | ok | clamped | restarted | conflict
  | busy | notNow | notPermitted | notEnrolled | lost | range
  | overlap | incomplete | wrongEpoch | late | duplicate | exhausted | empty | mismatch | badLength | unknown
deriving DecidableEq, Repr

/-- A reply, built once at its event (R182), with its read position (R175). -/
structure Reply where
  result   : Result
  phase    : Byte
  epoch    : Nat
  payload  : List Byte
  check    : Bool
  position : Nat := 0
deriving DecidableEq, Repr

/-- The frame decoder (R175, R176). -/
inductive DecoderState where
  | free | header | payload | check | ended
deriving DecidableEq, Repr

/-- What the next byte on the bus is to the part: nothing, an address after a start or repeated start, a byte written
to the part, a byte of the reply, or a byte after the master's NAK ended the part's sending (R173, R174, R179).
DEDUCED (log 4). -/
inductive BusPhase where
  | idle | address | writing | reading | readEnded
deriving DecidableEq, Repr

/-- The Fixture Bus Port (R175). `frame` holds the frame so far: the source id byte, the request byte, the length byte
and the payload bytes received, in that order. -/
structure Port where
  target  : BitVec 7 := Config.targetBase
  decoder : DecoderState := .free
  frame   : List Byte := []
  latch   : Bool := false
  reply   : Option Reply := none
  bus     : BusPhase := .idle
deriving DecidableEq, Repr

/-- The acknowledge bit the part gave to the byte of the command just taken (R173). -/
inductive BusAck where
  | none | ack | nak
deriving DecidableEq, Repr

/-- A byte read from the part with its parity bit (R173). -/
structure SentByte where
  data   : Byte
  parity : Bool
deriving DecidableEq, Repr

/-- The lines of the part: RESETn (true = high), ATTN (true = asserted), and what the command just taken put on EPOCH
and on the bus data line (log 2). Between commands EPOCH is low (R58). -/
structure Lines where
  resetN     : Bool := true
  attn       : Bool := false
  epochPulse : Bool := false
  ack        : BusAck := .none
  sent       : Option SentByte := none
deriving DecidableEq, Repr

-- ==== The whole part ====

/-- The state of the part and the queue of commands waiting. -/
structure State where
  pending      : List Instr
  links        : Table (Option Link) Config.linkIds
  classes      : ClassTable
  slots        : Table SlotRecord Config.slots
  windows      : Table ReportWindow Config.slots
  generation   : Nat
  seq          : Sequencer
  timing       : Timing
  observations : Table Observation Config.endpoints
  hearing      : Table Hearers Config.endpoints
  cursor       : Cursor
  verdicts     : Table VerdictRecord Config.linkIds
  findings     : List QueuedFinding
  nextSeq      : Nat
  stateSeen    : Bool
  port         : Port
  lines        : Lines
deriving DecidableEq, Repr

/-- The machine has no fault: the spec gives no command and no condition that stops the part. Every refusal of a
request is a reply (R185). No constructor, so nothing raises one. -/
inductive Fault where
deriving DecidableEq, Repr

/-- Why a command has no meaning in the model. -/
inductive Refusal where
  /-- Raised by an arm of `exec` whose command is not modelled yet (no arm is left so). Safe: the model stops. -/
  | notModelled (mnemonic : String)
deriving DecidableEq, Repr

/-- The outcome of a command. -/
abbrev StepOutcome := Host.Outcome State Fault Refusal

/-- The part right after a device reset that has ended, with both straps low (R16, R39, R40, R86, R123, R137, R163,
R171, R175; straps: DESIGN CHOICE, log 3). -/
def State.reset : State where
  pending      := []
  links        := Table.replicate _ none
  classes      := {}
  slots        := Table.replicate _ {}
  windows      := Table.replicate _ {}
  generation   := 0
  seq          := {}
  timing       := {}
  observations := Table.replicate _ {}
  hearing      := Table.replicate _ {}
  cursor       := {}
  verdicts     := Table.replicate _ {}
  findings     := []
  nextSeq      := 0
  stateSeen    := true
  port         := {}
  lines        := {}

end Sys2Proof.Machine
end

