-- ==== Sys2Proof/Machine/Wire.lean ====
section
/-!
DEFINITION. What a byte looks like on the fixture bus: the parity bit, the check byte, the codes of results and
phases, and the bytes of a reply (R173, R177, R182, R185, R186).
-/

namespace Sys2Proof.Machine

/-- Whether the number of ones in a byte is odd. -/
def oddOnes (b : Byte) : Bool :=
  (List.range 8).foldl (fun acc i => acc ^^ b.getLsbD i) false

/-- The parity bit that makes the number of ones among all nine bits odd (R173). -/
def parityBit (b : Byte) : Bool := !oddOnes b

/-- A byte with good parity: an odd number of ones among its nine bits (R173). -/
def goodParity (b : Byte) (parity : Bool) : Bool := parity == parityBit b

/-- One shift of the CRC: the polynomial x^8 + x^2 + x + 1 is added when a one bit leaves the top (R177). -/
def crcShift (v : Byte) : Byte := if v.msb then (v <<< 1) ^^^ 0x07 else v <<< 1

/-- One byte into the CRC: exclusive-or, then eight shifts (R177). -/
def crcByte (v b : Byte) : Byte := (List.range 8).foldl (fun acc _ => crcShift acc) (v ^^^ b)

/-- The CRC-8 check byte over a list of bytes, initial value 0 (R177). -/
def crc8 (bytes : List Byte) : Byte := bytes.foldl crcByte 0

/-- Result codes (R185). -/
def Result.code : Result → Byte
  | .ok => 0x00
  | .clamped => 0x01
  | .restarted => 0x02
  | .conflict => 0x03
  | .busy => 0x10
  | .notNow => 0x11
  | .notPermitted => 0x12
  | .notEnrolled => 0x13
  | .lost => 0x14
  | .range => 0x15
  | .overlap => 0x16
  | .incomplete => 0x17
  | .wrongEpoch => 0x18
  | .late => 0x19
  | .duplicate => 0x1A
  | .exhausted => 0x1B
  | .empty => 0x1C
  | .mismatch => 0x1D
  | .badLength => 0x1E
  | .unknown => 0x1F

/-- Phase codes (R186). -/
def SweepState.code : SweepState → Byte
  | .idle => 0x00
  | .arming => 0x01
  | .settle => 0x02
  | .measure => 0x03
  | .stopped _ => 0x04
  | .reduce => 0x05
  | .aborting => 0x06
  | .halted _ => 0x07
  | .done => 0x08
  | .aborted => 0x09

/-- The resume phase as a phase code; 0xFF when absent (R188). -/
def SweepState.resumeCode : SweepState → Byte
  | .stopped .settle => 0x02
  | .stopped .measure => 0x03
  | .stopped .reduce => 0x05
  | _ => 0xFF

/-- The bytes of a reply without its check byte (R182). -/
def Reply.body (r : Reply) : List Byte :=
  [r.result.code, r.phase] ++ be 2 r.epoch ++ be 1 r.payload.length ++ r.payload

/-- The bytes of a reply (R182); the check byte covers bytes 0 to 4 + length (R177). -/
def Reply.bytes (r : Reply) : List Byte :=
  if r.check then r.body ++ [crc8 r.body] else r.body

/-- The request byte of a frame: check flag in bit 7, request code in bits 6–0 (R176). -/
def requestByte (check : Bool) (code : BitVec 7) : Byte := BitVec.ofBool check ++ code

/-- The check flag of a request byte (R176). -/
def checkFlag (b : Byte) : Bool := b.msb

/-- The request code of a request byte (R176). -/
def requestCode (b : Byte) : BitVec 7 := b.extractLsb' 0 7

/-- The source id of a source id byte; bit 7 is not read (R176). -/
def sourceOf (b : Byte) : SourceId := b.extractLsb' 0 7

/-- Probe class: 0x01–0x6F (R181). -/
def isProbe (src : SourceId) : Bool := 0x01 ≤ src.toNat && src.toNat ≤ 0x6F

/-- Station class: 0x70–0x7F (R181). -/
def isStation (src : SourceId) : Bool := 0x70 ≤ src.toNat

end Sys2Proof.Machine
end

