-- ==== Sys2Proof/Machine/Flags.lean ====
section
/-!
DEFINITION. The attention logic: the condition ATTN follows, the event at which the line follows it, and the
state-seen flag (R170, R171).
-/

namespace Sys2Proof.Machine

/-- STOPPED, DONE, ABORTED and HALTED: the states that hold ATTN until the station has seen them (R170). -/
def SweepState.wantsAttention : SweepState → Bool
  | .stopped _ => true
  | .halted _ => true
  | .done => true
  | .aborted => true
  | .idle => false
  | .arming => false
  | .settle => false
  | .measure => false
  | .reduce => false
  | .aborting => false

/-- The condition of ATTN (R170). -/
def State.attnCondition (s : State) : Bool :=
  !s.findings.isEmpty || (s.seq.sweep.wantsAttention && !s.stateSeen)

/-- The line follows its condition at an event that may change it (R170). -/
def State.driveAttn (s : State) : State := { s with lines := { s.lines with attn := s.attnCondition } }

/-- Entry to STOPPED, DONE, ABORTED or HALTED clears state-seen (R171). -/
def State.clearSeen (s : State) : State := { s with stateSeen := false }

/-- A station STATUS and device reset set state-seen (R171). -/
def State.setSeen (s : State) : State := { s with stateSeen := true }

end Sys2Proof.Machine
end

