-- ==== Sys2Proof/Machine/Ops.lean ====
section
/-!
DEFINITION. The shared operations: lookups of the plan and the roster, the timer, and the sweep transitions that
several commands take (entry to the terminal states, to STOPPED and to HALTED, the quiet call, the aborts, the end of
the quiet call, the end of the pass).
-/

namespace Sys2Proof.Machine

-- ==== Endpoints and the plan lookups (R1, R15) ====

/-- A lane end as an endpoint index (R1). -/
def endpoint (slot lane : Nat) : Nat := slot * 32 + lane

/-- Base of the tx span (R1). -/
def Link.txStart (l : Link) : Nat := endpoint l.txSlot l.txBase

/-- Base of the rx span (R1). -/
def Link.rxStart (l : Link) : Nat := endpoint l.rxSlot l.rxBase

/-- Whether the tx span holds an endpoint (R1). -/
def Link.coversTx (l : Link) (e : Nat) : Bool := l.txStart ≤ e && e < l.txStart + l.width

/-- Whether the rx span holds an endpoint (R1). -/
def Link.coversRx (l : Link) (e : Nat) : Bool := l.rxStart ≤ e && e < l.rxStart + l.width

/-- Whether two runs of endpoints share one. -/
def spansMeet (a wa b wb : Nat) : Bool := a < b + wb && b < a + wa

/-- The used ids with their records in ascending id, counting from `i`. -/
def usedFrom : Nat → List (Option Link) → List (Nat × Link)
  | _, [] => []
  | i, none :: l => usedFrom (i + 1) l
  | i, some k :: l => (i, k) :: usedFrom (i + 1) l

/-- The used ids with their records in ascending id (R15). -/
def State.usedLinks (s : State) : List (Nat × Link) := usedFrom 0 s.links.entries

/-- The link count (R1, R15). -/
def State.linkCount (s : State) : Nat := s.usedLinks.length

/-- The link covering an rx endpoint, with its lane index (R15). -/
def coveringRx (plan : List (Nat × Link)) (e : Nat) : Option PlannedLane :=
  (plan.find? fun p => p.2.coversRx e).map fun p => { link := p.1, lane := e - p.2.rxStart }

/-- The link covering a tx endpoint, with its lane index (R15). -/
def coveringTx (plan : List (Nat × Link)) (e : Nat) : Option PlannedLane :=
  (plan.find? fun p => p.2.coversTx e).map fun p => { link := p.1, lane := e - p.2.txStart }

/-- The planned tx lanes of a slot in ascending lane order (R15). -/
def State.plannedTxLanes (s : State) (slot : Nat) : List Nat :=
  (List.range 32).filter fun lane => (coveringTx s.usedLinks (endpoint slot lane)).isSome

/-- The page count of a slot (R30, R45). -/
def State.pageCount (s : State) (slot : Nat) : Nat := max 1 (((s.plannedTxLanes slot).length + 15) / 16)

/-- The states in which the plan is open for writing (R5), which are also those in which SET TIMING and RESET CAMPAIGN
are taken (R79, R83). -/
def SweepState.atRest : SweepState → Bool
  | .idle => true
  | .done => true
  | .aborted => true
  | .arming => false
  | .settle => false
  | .measure => false
  | .stopped _ => false
  | .reduce => false
  | .aborting => false
  | .halted _ => false

/-- The class record of a class (R4). -/
def ClassTable.get (t : ClassTable) : LossClass → ClassRecord
  | .a => t.a
  | .b => t.b
  | .c => t.c
  | .d => t.d

/-- Store the record of a class (R12). -/
def ClassTable.set (t : ClassTable) (k : LossClass) (r : ClassRecord) : ClassTable :=
  match k with
  | .a => { t with a := r }
  | .b => { t with b := r }
  | .c => { t with c := r }
  | .d => { t with d := r }

-- ==== Roster lookups and counts (R18, R34, R36) ====

/-- A record holds a source id as its probe source id or its claimant id (R18). -/
def SlotRecord.holds (r : SlotRecord) (src : SourceId) : Bool :=
  r.source == some src || r.claimant == some src

/-- The source's slot (R18). -/
def State.slotOf (s : State) (src : SourceId) : Option Nat := s.slots.first fun _ r => r.holds src

/-- The slot whose probe source id is the source (R36, R102). -/
def State.probeSlotOf (s : State) (src : SourceId) : Option Nat := s.slots.first fun _ r => r.source == some src

/-- The lane count a record holds; 0 where it holds none. -/
def SlotRecord.laneCount (r : SlotRecord) : Nat := r.lanes.getD 0

/-- Participating count (R34). -/
def State.participatingCount (s : State) : Nat := s.slots.count fun r => r.participating

/-- ACTIVE count (R34). -/
def State.activeCount (s : State) : Nat := s.slots.count fun r => r.state == .active

/-- Counted as lost: LOST, or CONFLICT with lost by conflict (R34). -/
def SlotRecord.isLost (r : SlotRecord) : Bool := r.state == .lost || (r.state == .conflict && r.lostByConflict)

/-- LOST count (R34). -/
def State.lostCount (s : State) : Nat := s.slots.count SlotRecord.isLost

/-- EXCLUDED count (R34). -/
def State.excludedCount (s : State) : Nat := s.slots.count fun r => r.state == .excluded

/-- ENROLLED slots, for START's check (R29). -/
def State.enrolledCount (s : State) : Nat := s.slots.count fun r => r.state == .enrolled

/-- Participating ENROLLED slots, for the end of ARMING (R32). -/
def State.unreadyCount (s : State) : Nat := s.slots.count fun r => r.state == .enrolled && r.participating

/-- READY slots, for the end of ARMING (R32). -/
def State.readyCount (s : State) : Nat := s.slots.count fun r => r.state == .ready

/-- A slot is called when a quiet call starts (R36). -/
def SlotRecord.called (r : SlotRecord) : Bool := r.state == .active || r.isLost

/-- A slot of the owing set (R28, R36). -/
def SlotRecord.owing (r : SlotRecord) : Bool := r.quietOwed && !r.quietAcked

/-- A set of slots from a list of yes/no, slot 0 first (R188). -/
def slotSetFrom : Nat → List Bool → SlotSet
  | _, [] => 0
  | i, b :: l => (if b then BitVec.twoPow 24 i else 0) ||| slotSetFrom (i + 1) l

/-- The owing set (R36). -/
def State.owingSet (s : State) : SlotSet := slotSetFrom 0 (s.slots.entries.map SlotRecord.owing)

/-- Whether some slot owes quiet (R36, R74, R75). -/
def State.someOwing (s : State) : Bool := s.slots.entries.any SlotRecord.owing

-- ==== Epoch phases (R59) ====

/-- The phase an epoch belonged to (R59). -/
inductive EpochPhase where
  | arming | settle | measure | afterSweep
deriving DecidableEq, Repr

/-- The phase of epoch `n` by the boundaries recorded (R59). -/
def Sequencer.phaseOf (q : Sequencer) (n : Nat) : EpochPhase :=
  if q.s0.all (n < ·) then .arming
  else if q.closing.any (· ≤ n) then .afterSweep
  else if q.m0.all (n < ·) then .settle
  else .measure

-- ==== Report windows (R93) ====

/-- Every report window emptied (R93, R100). -/
def State.emptyWindows (s : State) : State := { s with windows := Table.replicate _ {} }

-- ==== Sweep transitions ====

/-- The epoch timer started or restarted with one full period (R57). -/
def State.restartTimer (s : State) : State := { s with seq := { s.seq with timer := .running s.timing.period } }

/-- Sweep end for one slot: a participating slot returns to ENROLLED, not participating (R37). -/
def SlotRecord.sweepEnd (r : SlotRecord) : SlotRecord :=
  if r.participating then { r with state := .enrolled, participating := false } else r

/-- Entry to DONE or ABORTED (R37, R78, R93, R171). -/
def State.enterTerminal (t : SweepState) (s : State) : State :=
  { s with
    seq := { s.seq with sweep := t, timer := .haltedOff, hold := 0 }
    slots := s.slots.map SlotRecord.sweepEnd
    windows := Table.replicate _ {}
    stateSeen := false }

/-- Entry to STOPPED at a phase-end marker (R69, R171). -/
def State.enterStopped (r : ResumePhase) (s : State) : State :=
  { s with
    seq := { s.seq with sweep := .stopped r, timer := .suspended, hold := 0 }
    stateSeen := false }

/-- Entry to HALTED at the quiet deadline: the halt slot set is the owing set (R75, R171). -/
def State.enterHalted (o : HaltOrigin) (s : State) : State :=
  { s with
    seq := { s.seq with sweep := .halted o, timer := .haltedOff, hold := 0, haltSlots := s.owingSet }
    stateSeen := false }

/-- A slot at the start of a quiet call (R36). -/
def SlotRecord.callQuiet (r : SlotRecord) : SlotRecord :=
  if r.called then { r with quietOwed := true, quietAcked := false } else r

/-- The quiet call starts (R36, R73). -/
def State.startQuietCall (s : State) : State :=
  { s with
    seq := { s.seq with quietCall := .pending, quietDeadline := some (s.seq.epoch + 4) }
    slots := s.slots.map SlotRecord.callQuiet }

/-- Closing epoch set to the current epoch number unless it is present (R59). -/
def State.closeSweep (s : State) : State :=
  { s with seq := { s.seq with closing := some (s.seq.closing.getD s.seq.epoch) } }

/-- The abort cause recorded. -/
def State.setCause (c : AbortCause) (s : State) : State := { s with seq := { s.seq with abortCause := c } }

/-- Entry to ABORTING: hold remaining is cleared (R82). -/
def State.enterAborting (s : State) : State := { s with seq := { s.seq with sweep := .aborting, hold := 0 } }

/-- The pass is stopped by an abort (R71, R158): a pass not begun or under way becomes STOPPED, its position is kept and a
pending finding is dropped; a complete pass stays COMPLETE. -/
def State.stopPass (s : State) : State :=
  match s.cursor.stage with
  | .complete => s
  | .stopped => s
  | .notStarted | .links | .unplanned =>
    { s with
      cursor := { s.cursor with stage := .stopped, pendingFinding := none }
      seq := { s.seq with evaluation := .stopped } }

/-- The abort out of SETTLE or MEASURE (R71, R72). -/
def State.abortRunning (c : AbortCause) (s : State) : State :=
  (((s.closeSweep).setCause c).startQuietCall).enterAborting

/-- The abort out of STOPPED with resume phase SETTLE: no quiet call (R71, R72). -/
def State.abortBeforeSettle (c : AbortCause) (s : State) : State :=
  ((s.closeSweep).setCause c).enterTerminal .aborted

/-- The quiet call starts if it has not (R71). -/
def State.ensureQuietCall (s : State) : State :=
  match s.seq.quietCall with
  | .notStarted => s.startQuietCall
  | .pending => s
  | .complete => s

/-- The abort out of STOPPED with resume phase MEASURE or REDUCE (R71, R72). -/
def State.abortStopped (c : AbortCause) (s : State) : State :=
  (((s.closeSweep).setCause c).ensureQuietCall).restartTimer.enterAborting

/-- The abort out of REDUCE (R71, R158): ABORTED if the quiet call is COMPLETE, else ABORTING. -/
def State.abortReduce (c : AbortCause) (s : State) : State :=
  let s := (s.setCause c).stopPass
  match s.seq.quietCall with
  | .complete => s.enterTerminal .aborted
  | .pending => s.enterAborting
  | .notStarted => s.enterAborting

/-- The effect of an abort by the sweep state (R71). In ABORTING, and where R71 answers NOT_NOW, nothing changes. -/
def State.abortSweep (c : AbortCause) (s : State) : State :=
  match s.seq.sweep with
  | .arming => (s.setCause c).enterTerminal .aborted
  | .stopped .settle => s.abortBeforeSettle c
  | .settle => s.abortRunning c
  | .measure => s.abortRunning c
  | .stopped .measure => s.abortStopped c
  | .stopped .reduce => s.abortStopped c
  | .reduce => s.abortReduce c
  | .aborting => s
  | .idle => s
  | .done => s
  | .aborted => s
  | .halted _ => s

/-- The states in which a fall of the ACTIVE count to 0 aborts the sweep (R72). -/
def SweepState.abortsWhenLost : SweepState → Bool
  | .settle => true
  | .measure => true
  | .stopped .settle => true
  | .stopped .measure => true
  | .stopped .reduce => false
  | .idle => false
  | .arming => false
  | .reduce => false
  | .aborting => false
  | .halted _ => false
  | .done => false
  | .aborted => false

/-- The roster reports that the ACTIVE count fell and is now 0 (R34, R72). -/
def State.allLost (s : State) : State :=
  if s.seq.sweep.abortsWhenLost then s.abortSweep .allLost else s

/-- The ACTIVE count fell; ALL_LOST acts when it is now 0 (R34, R72). -/
def State.activeFell (s : State) : State := if s.activeCount = 0 then s.allLost else s

/-- The quiet call becomes COMPLETE when the owing set is empty; what follows depends on the sweep state (R74). -/
def State.quietAnswered (s : State) : State :=
  if s.someOwing then s
  else
    let s := { s with seq := { s.seq with quietCall := .complete } }
    match s.seq.sweep with
    | .aborting => s.enterTerminal .aborted
    | .reduce => if s.seq.evaluation = .complete then s.enterTerminal .done else s
    | _ => s

/-- The pass is complete: stage COMPLETE, evaluation COMPLETE, and DONE from REDUCE when the quiet call is COMPLETE
(R68, R155). -/
def State.finishPass (s : State) : State :=
  let s := { s with
    cursor := { s.cursor with stage := .complete, position := none }
    seq := { s.seq with evaluation := .complete } }
  if s.seq.sweep = .reduce ∧ s.seq.quietCall = .complete then s.enterTerminal .done else s

/-- The lowest used link id at or above `i` (R140). -/
def State.usedIdFrom (s : State) (i : Nat) : Option Nat := s.links.first fun k l => i ≤ k && l.isSome

/-- The position moves on when a step is finished (R140, R155). -/
def State.advance (s : State) : State :=
  match s.cursor.stage, s.cursor.position with
  | .links, some k =>
    match s.usedIdFrom (k + 1) with
    | some j => { s with cursor := { s.cursor with position := some j } }
    | none => { s with cursor := { s.cursor with stage := .unplanned, position := some 0 } }
  | .unplanned, some e =>
    if e + 1 < 768 then { s with cursor := { s.cursor with position := some (e + 1) } } else s.finishPass
  | _, _ => s

-- ==== The Finding Queue (R164) ====

/-- A finding is given the next sequence number and appended at the tail (R164). -/
def State.pushFinding (f : Finding) (s : State) : State :=
  { s with findings := s.findings ++ [{ seq := s.nextSeq, finding := f }], nextSeq := s.nextSeq + 1 }

/-- A finding is offered: pushed when there is room, and the position moves on; else held pending (R156, R164). -/
def State.offer (f : Finding) (s : State) : State :=
  if s.findings.length < Config.queueCapacity then (s.pushFinding f).advance
  else { s with cursor := { s.cursor with pendingFinding := some f } }

end Sys2Proof.Machine
end

