-- ==== Sys2Proof/Machine/Operands.lean ====
section
/-!
DEFINITION. The operand forms of requests and the encodings of reply items: how the bytes of a payload become the
fields of a request (R184, R187), and how numbers, optional fields, names and sets become bytes of a reply (R188,
R189).
-/

namespace Sys2Proof.Machine

-- ==== Items of a reply (R189) ====

/-- A yes/no item: one byte, 1 or 0. -/
def yesNo (b : Bool) : List Byte := [if b then 1 else 0]

/-- An optional number of `k` bytes: a presence byte, then the number, sent as 0 when absent. -/
def optionalBytes (k : Nat) : Option Nat → List Byte
  | none => 0 :: be k 0
  | some v => 1 :: be k v

/-- A signed number: 4 bytes in two's complement. -/
def signed (z : Int) : List Byte := be 4 (BitVec.ofInt 32 z).toNat

/-- A set of slots: three bytes, as in R188. -/
def slotSet (x : SlotSet) : List Byte := be 3 x.toNat

/-- Position of a class in R1's list (R184). -/
def LossClass.code : LossClass → Nat
  | .a => 0
  | .b => 1
  | .c => 2
  | .d => 3

/-- The class a byte names; 4 to 255 name none (R184). -/
def classOf (b : Byte) : Option LossClass :=
  if b = 0 then some .a else if b = 1 then some .b else if b = 2 then some .c else if b = 3 then some .d else none

/-- Position of a roster state in R18's list. -/
def RosterState.code : RosterState → Nat
  | .empty => 0
  | .enrolled => 1
  | .conflict => 2
  | .ready => 3
  | .active => 4
  | .excluded => 5
  | .lost => 6

/-- Position of a settled class in the list of R104 (and R162). -/
def SettledClass.code : SettledClass → Nat
  | .direct => 0
  | .inverted => 1
  | .stale => 2

/-- A verdict: 0 for NOT_EVALUATED, 1 to 14 by rank, 15 for UNPLANNED (R189). -/
def Verdict.code : Verdict → Nat
  | .notEvaluated => 0
  | .untested => 1
  | .open => 2
  | .garbled => 3
  | .bridged => 4
  | .misrouted => 5
  | .order => 6
  | .stale => 7
  | .unstable => 8
  | .polarity => 9
  | .errors => 10
  | .skew => 11
  | .unproven => 12
  | .marginal => 13
  | .pass => 14
  | .unplanned => 15

/-- Position of an untested reason in R151's list. -/
def UntestedReason.code : UntestedReason → Nat
  | .noRxProbe => 0
  | .noTxProbe => 1
  | .rxLaneAbsent => 2
  | .txLaneAbsent => 3
  | .rxLost => 4

/-- Position of a finding kind in R162's list. -/
def FindingKind.code : FindingKind → Nat
  | .link => 0
  | .unplanned => 1

/-- Quiet call state (R188). -/
def QuietCall.code : QuietCall → Nat
  | .notStarted => 0
  | .pending => 1
  | .complete => 2

/-- Abort cause (R188). -/
def AbortCause.code : AbortCause → Nat
  | .none => 0
  | .station => 1
  | .noneReady => 2
  | .allLost => 3

/-- Cursor stage (R188). -/
def Stage.code : Stage → Nat
  | .notStarted => 0
  | .links => 1
  | .unplanned => 2
  | .complete => 3
  | .stopped => 4

/-- The notes: bit 0 REVERSED, bit 1 INVERTED_OK, bit 2 SATURATED (R189). -/
def Notes.byte (n : Notes) : Byte :=
  (if n.reversed then 1 else 0) ||| (if n.invertedOk then 2 else 0) ||| (if n.saturated then 4 else 0)

-- ==== Record payloads ====

/-- A link record: every field of R1 (R11). -/
def Link.payload (id : Nat) (l : Link) : List Byte :=
  be 2 id ++ be 1 l.txSlot ++ be 1 l.txBase ++ be 1 l.rxSlot ++ be 1 l.rxBase ++ be 1 l.width
    ++ be 1 l.lossClass.code ++ yesNo l.reversal ++ yesNo l.polarity ++ optionalBytes 1 l.budget

/-- A class record: the class, Qreq and band (R12, R13). -/
def ClassRecord.payload (k : LossClass) (r : ClassRecord) : List Byte := be 1 k.code ++ be 1 r.qreq ++ be 1 r.band

/-- Every setting as stored (R83, R84). -/
def Timing.payload (t : Timing) : List Byte :=
  be 2 t.period ++ be 1 t.arming ++ be 1 t.window ++ be 2 t.measure ++ be 1 t.allowance
    ++ yesNo t.stopArming ++ yesNo t.stopSettle ++ yesNo t.stopMeasure

/-- A slot record: every field of R18, then owing quiet (R28). -/
def SlotRecord.payload (r : SlotRecord) : List Byte :=
  be 1 r.state.code ++ optionalBytes 1 (r.source.map BitVec.toNat) ++ optionalBytes 1 (r.claimant.map BitVec.toNat)
    ++ optionalBytes 1 r.lanes ++ yesNo r.participating ++ be 1 r.pages.toNat ++ be 1 r.missed ++ yesNo r.activated
    ++ yesNo r.lostByConflict ++ be 1 r.holdCharged ++ yesNo r.quietOwed ++ yesNo r.quietAcked ++ yesNo r.owing

/-- The planned link: an optional field of a link id and a lane index (R104, R189). -/
def plannedBytes : Option PlannedLane → List Byte
  | none => 0 :: be 3 0
  | some p => 1 :: (be 2 p.link ++ be 1 p.lane)

/-- An observation record: every field of R104 in its order (R118). -/
def Observation.payload (o : Observation) : List Byte :=
  plannedBytes o.planned ++ be 1 o.lockRun ++ optionalBytes 4 (o.candidate.map BitVec.toNat) ++ yesNo o.settled.isSome
    ++ optionalBytes 1 (o.settled.map fun x => x.cls.code) ++ optionalBytes 4 (o.settled.map fun x => x.word.toNat)
    ++ optionalBytes 2 (o.settled.map fun x => x.heard) ++ yesNo o.lockSeen ++ yesNo o.validSeen ++ yesNo o.garbledSeen
    ++ be 1 o.dropouts ++ be 2 o.gaps ++ be 5 o.units ++ yesNo o.unitsSaturated ++ be 4 o.errors
    ++ yesNo o.errorsSaturated ++ signed o.skewSum ++ be 2 o.skewCount

/-- Entry `i` of a hearers list in two bytes, 0 past the end (R189). -/
def hearerBytes (h : Hearers) (i : Nat) : List Byte := be 2 (h.list.getD i 0)

/-- A hearers record: the count, the entries in list order padded to 4, and overflow (R122, R189). -/
def Hearers.payload (h : Hearers) : List Byte :=
  be 1 h.list.length ++ hearerBytes h 0 ++ hearerBytes h 1 ++ hearerBytes h 2 ++ hearerBytes h 3 ++ yesNo h.overflow

/-- A verdict record: every field of R151 (R161). -/
def VerdictRecord.payload (v : VerdictRecord) : List Byte :=
  be 1 v.verdict.code ++ be 1 v.worstLane ++ optionalBytes 1 (v.reason.map UntestedReason.code) ++ optionalBytes 1 v.margin
    ++ optionalBytes 2 v.skew ++ [v.notes.byte]

/-- A heard endpoint with its class: one optional field of three bytes (R189). -/
def heardBytes : Option Heard → List Byte
  | none => 0 :: be 3 0
  | some h => 1 :: (be 2 h.endpoint ++ be 1 h.cls.code)

/-- A finding with its sequence number: every field of R162 (R166). -/
def QueuedFinding.payload (q : QueuedFinding) : List Byte :=
  be 2 q.seq ++ be 1 q.finding.kind.code ++ optionalBytes 2 q.finding.linkId ++ be 2 q.finding.rx
    ++ be 1 q.finding.verdict.code ++ heardBytes q.finding.heard ++ optionalBytes 1 q.finding.margin
    ++ optionalBytes 2 q.finding.skew ++ [q.finding.notes.byte]

/-- The presence byte of the sweep status: bit 0 s0, bit 1 m0, bit 2 cursor position (R188). -/
def presenceByte (s0 m0 position : Option Nat) : Byte :=
  (if s0.isSome then 1 else 0) ||| (if m0.isSome then 2 else 0) ||| (if position.isSome then 4 else 0)

/-- The sweep status, 28 bytes (R85, R188). -/
def State.statusPayload (s : State) : List Byte :=
  [s.seq.sweep.code, s.seq.sweep.resumeCode] ++ be 1 s.generation ++ be 2 s.seq.epoch
    ++ [presenceByte s.seq.s0 s.seq.m0 s.cursor.position]
    ++ be 2 (s.seq.s0.getD 0) ++ be 2 (s.seq.m0.getD 0)
    ++ be 1 s.participatingCount ++ be 1 s.activeCount ++ be 1 s.lostCount ++ be 1 s.excludedCount
    ++ be 1 s.seq.hold ++ be 1 s.seq.quietCall.code ++ slotSet s.owingSet ++ be 1 s.seq.abortCause.code
    ++ slotSet s.seq.haltSlots ++ be 1 s.findings.length ++ be 1 s.cursor.stage.code
    ++ be 2 (s.cursor.position.getD 0) ++ yesNo s.cursor.pendingFinding.isSome

-- ==== Request payloads (R184, R187) ====

/-- The fields of a SET LINK payload. -/
def parseLink (p : List Byte) : LinkFields :=
  { id := halfAt p 0, txSlot := byteAt p 2, txBase := byteAt p 3, rxSlot := byteAt p 4, rxBase := byteAt p 5,
    width := byteAt p 6, cls := byteAt p 7, flags := byteAt p 8, budget := byteAt p 9 }

/-- The bytes of a SET LINK payload. -/
def linkBytes (f : LinkFields) : List Byte :=
  halfBytes f.id ++ [f.txSlot, f.txBase, f.rxSlot, f.rxBase, f.width, f.cls, f.flags, f.budget]

/-- The fields of a SET TIMING payload. -/
def parseTiming (p : List Byte) : TimingFields :=
  { period := halfAt p 0, arming := halfAt p 2, window := halfAt p 4, measure := halfAt p 6,
    allowance := byteAt p 8, stops := byteAt p 9 }

/-- The bytes of a SET TIMING payload. -/
def timingBytes (f : TimingFields) : List Byte :=
  halfBytes f.period ++ halfBytes f.arming ++ halfBytes f.window ++ halfBytes f.measure ++ [f.allowance, f.stops]

/-- The lane record whose 15 bytes begin a list; bits 6–5 of byte 0 are not read. -/
def parseRecord (p : List Byte) : LaneRecord :=
  { lane := (byteAt p 0).extractLsb' 0 5, lock := (byteAt p 0).msb, raw := wordAt p 1, units := wordAt p 5,
    errors := wordAt p 9, skew := halfAt p 13 }

/-- The 15 bytes of a lane record, with bits 6–5 of byte 0 sent as 0. -/
def recordBytes (r : LaneRecord) : List Byte :=
  (BitVec.ofBool r.lock ++ (0 : BitVec 2) ++ r.lane) :: (wordBytes r.raw ++ wordBytes r.units ++ wordBytes r.errors
    ++ halfBytes r.skew)

/-- `n` lane records from a list of bytes. -/
def parseRecords : Nat → List Byte → List LaneRecord
  | 0, _ => []
  | n + 1, p => parseRecord p :: parseRecords n (p.drop 15)

/-- The link record a SET LINK offers, for a class that its class byte names (R1, R184). -/
def linkOf (f : LinkFields) (k : LossClass) : Link :=
  { txSlot := f.txSlot.toNat, txBase := f.txBase.toNat, rxSlot := f.rxSlot.toNat, rxBase := f.rxBase.toNat,
    width := f.width.toNat, lossClass := k, reversal := f.flags.getLsbD 0, polarity := f.flags.getLsbD 1,
    budget := if f.flags.getLsbD 2 then some f.budget.toNat else none }

end Sys2Proof.Machine
end

