-- ==== Sys2Proof/Machine/Port.lean ====
section
/-!
DEFINITION. The Fixture Bus Port's side of a request: the judgement of a completed frame (R181), the reply it builds
and holds (R182, R183), and what a request that cannot reach the part does (R178).
-/

namespace Sys2Proof.Machine

/-- What an owning block gives back for a request: the part's state, a result code and a payload (R181). -/
structure Answer where
  state   : State
  result  : Result
  payload : List Byte := []

/-- A refusal: the state as it was (R185). -/
def refuse (r : Result) (s : State) : Answer := { state := s, result := r }

/-- A refusal with a payload: the state as it was. -/
def refuseWith (r : Result) (payload : List Byte) (s : State) : Answer := { state := s, result := r, payload := payload }

/-- A request taken and answered OK. -/
def accept (payload : List Byte) (s : State) : Answer := { state := s, result := .ok, payload := payload }

/-- Which classes of master may send a request (R184). -/
inductive RequesterClass where
  | probe | station | both
deriving DecidableEq, Repr

/-- Whether a source's class may send the request (R181, R184). -/
def RequesterClass.permits (k : RequesterClass) (src : SourceId) : Bool :=
  match k with
  | .probe => isProbe src
  | .station => isStation src
  | .both => isProbe src || isStation src

/-- One request of the catalogue with its payload read: who may send it, whether its length is right, and what its
owning block does with it (R184). -/
structure Entry where
  cls      : RequesterClass
  lengthOk : Bool
  body     : State → Answer

/-- The judgement of a completed frame; `none` is a code that is not in the catalogue (R181). -/
def judge (src : SourceId) (entry : Option Entry) (s : State) : Answer :=
  if src = 0 then refuse .notPermitted s
  else match entry with
    | none => refuse .unknown s
    | some e =>
      if e.cls.permits src then
        if e.lengthOk then e.body s else refuse .badLength s
      else refuse .notPermitted s

/-- The outputs of the part before a command acts: no pulse, no acknowledge, nothing sent. -/
def State.quietLines (s : State) : State :=
  { s with lines := { s.lines with epochPulse := false, ack := .none, sent := none } }

/-- The part acknowledges the byte, or leaves the line high (R173). -/
def State.giveAck (a : BusAck) (s : State) : State := { s with lines := { s.lines with ack := a } }

/-- A reply with the phase code and the epoch number that stand now (R182). -/
def State.reply (s : State) (check : Bool) (r : Result) (payload : List Byte) : Reply :=
  { result := r, phase := s.seq.sweep.code, epoch := s.seq.epoch, payload := payload, check := check }

/-- The frame being written has ended: its bytes are no longer kept, and a reply to it is held (R175, R176). -/
def State.endFrame (check : Bool) (r : Result) (payload : List Byte) (s : State) : State :=
  { s with port := { s.port with
      decoder := .ended, frame := [], bus := .writing, reply := some (s.reply check r payload) } }

/-- A frame completes: it is judged, and the reply is built from the state the request left (R176, R181, R182). The last
byte is ACKed whatever the judgement gives. -/
def State.completeFrame (rq : Requester) (entry : Option Entry) (s : State) : State :=
  let a := judge rq.source entry s
  ((a.state.endFrame rq.check a.result a.payload).giveAck .ack).driveAttn

/-- A request command: a frame with this request is written to the part. While RESETn is low the part acknowledges no
byte (R175). While the error latch is set every byte is NAKed and no request is taken (R178). A length above 128 ends
the frame at its length byte, answered BAD_LENGTH, and the payload bytes that follow are NAKed (R176, R180). -/
def State.deliver (rq : Requester) (entry : Option Entry) (length : Nat) (s : State) : State :=
  let s := s.quietLines
  if s.lines.resetN then
    if s.port.latch then s.giveAck .nak
    else if length > Config.maxPayload then (s.endFrame rq.check .badLength []).giveAck .nak
    else s.completeFrame rq entry
  else s

end Sys2Proof.Machine
end

