-- ==== Sys2Proof/Machine/Tags.lean ====
section
/-!
DEFINITION. The Tag Unit: the generation, tag words, drive-list pages and the classification of reported words
(R40–R54).
-/

namespace Sys2Proof.Machine

/-- The generation advances at START: 63 becomes 1 (R41). -/
def nextGeneration (g : Nat) : Nat := if g = 63 then 1 else g + 1

/-- The check field for an endpoint field and a generation field (R43, R51). -/
def tagCheck (e g : Nat) : Nat := (37 * e + 11 * g + 1445) % 4096

/-- A word of the four fields: marker in bits 31–28, generation 27–22, endpoint 21–12, check 11–0 (R187). -/
def tagWord (marker : BitVec 4) (g : BitVec 6) (e : BitVec 10) (c : BitVec 12) : Word := marker ++ g ++ e ++ c

/-- The tag of tx endpoint `e` at generation `g` (R43). -/
def tag (e g : Nat) : Word :=
  tagWord 12 (BitVec.ofNat 6 g) (BitVec.ofNat 10 e) (BitVec.ofNat 12 (tagCheck e g))

/-- The orientation marker of a word (R187). -/
def markerField (w : Word) : BitVec 4 := w.extractLsb' 28 4

/-- The generation field of a word (R187). -/
def generationField (w : Word) : Nat := (w.extractLsb' 22 6).toNat

/-- The endpoint field of a word (R187). -/
def endpointField (w : Word) : Nat := (w.extractLsb' 12 10).toNat

/-- The check field of a word (R187). -/
def checkField (w : Word) : Nat := (w.extractLsb' 0 12).toNat

/-- What the Tag Unit returns for a lane record (R49); `valid` is STALE, DIRECT or INVERTED with its decoded endpoint
and polarity. -/
inductive Classified where
  | none
  | garbled
  | valid (cls : SettledClass) (heard : Nat) (inverted : Bool)
deriving DecidableEq, Repr

/-- The tests on the word as taken: endpoint field, check field, then the generation field (R51, R52). -/
def classifyTaken (generation : Nat) (w : Word) (inverted : Bool) : Classified :=
  if endpointField w ≤ 767 ∧ checkField w = tagCheck (endpointField w) (generationField w) then
    if generationField w = generation then
      .valid (if inverted then .inverted else .direct) (endpointField w) inverted
    else .valid .stale (endpointField w) inverted
  else .garbled

/-- The class of a lane record from its lock flag, its raw word and the generation (R49–R53). -/
def classify (generation : Nat) (lock : Bool) (raw : Word) : Classified :=
  if lock then
    if markerField raw = 12 then classifyTaken generation raw false
    else if markerField raw = 3 then classifyTaken generation (~~~raw) true
    else .garbled
  else .none

-- ==== Drive lists (R45–R48) ====

/-- One assignment of a page: the lane, then its tag word (R187). -/
def assignmentBytes (generation slot lane : Nat) : List Byte :=
  be 1 lane ++ wordBytes (tag (endpoint slot lane) generation)

/-- The lanes on a page: the page's share of the drive list (R45). -/
def State.pageLanes (s : State) (slot page : Nat) : List Nat := ((s.plannedTxLanes slot).drop (16 * page)).take 16

/-- A drive-list page as the payload of FETCH DRIVES (R46, R187). -/
def State.drivePage (s : State) (slot page : Nat) : List Byte :=
  be 1 s.generation ++ be 1 page ++ yesNo (page + 1 < s.pageCount slot) ++ be 1 (s.slots.get slot).laneCount
    ++ be 1 (s.pageLanes slot page).length
    ++ (s.pageLanes slot page).flatMap (assignmentBytes s.generation slot)

end Sys2Proof.Machine
end

