-- ==== Sys2Proof/Machine/Roster.lean ====
section
/-!
DEFINITION. The Slot Roster: ENROL, LEAVE, FETCH DRIVES, READY, GET SLOT and RELEASE SLOT (R18–R39).
-/

namespace Sys2Proof.Machine

/-- One slot record replaced. -/
def State.setSlot (slot : Nat) (r : SlotRecord) (s : State) : State := { s with slots := s.slots.set slot r }

-- ==== ENROL (R20–R24) ====

/-- The slot other than `slot` in whose record the source appears (R20). -/
def State.heldElsewhere (s : State) (src : SourceId) (slot : Nat) : Option Nat :=
  s.slots.first fun i r => i != slot && r.holds src

/-- The record of a slot newly enrolled (R21). -/
def enrolledRecord (src : SourceId) (lanes : Nat) (arming : Bool) : SlotRecord :=
  { state := .enrolled, source := some src, lanes := some lanes, participating := arming }

/-- ENROL from the slot's own source (R22, R23). -/
def enrolOwn (slot lanes : Nat) (r : SlotRecord) (s : State) : Answer :=
  match r.state with
  | .enrolled => accept [] (s.setSlot slot { r with lanes := some lanes, pages := 0 })
  | .ready => { state := s.setSlot slot { r with state := .lost }, result := .restarted }
  | .excluded => { state := s.setSlot slot { r with state := .lost }, result := .restarted }
  | .active => { state := (s.setSlot slot { r with state := .lost }).activeFell, result := .restarted }
  | .lost => refuse .lost s
  | .conflict => refuse .conflict s
  | .empty => refuse .conflict s

/-- The record of a slot that a second source claims (R24). -/
def SlotRecord.contested (r : SlotRecord) (src : SourceId) : SlotRecord :=
  { r with state := .conflict, claimant := some src, participating := false,
           lostByConflict := r.lostByConflict || r.state == .active || r.state == .lost }

/-- ENROL from another source, naming a slot that is not EMPTY (R24). -/
def enrolOther (src : SourceId) (slot : Nat) (r : SlotRecord) (s : State) : Answer :=
  match r.state with
  | .conflict => refuse .conflict s
  | .active => { state := (s.setSlot slot (r.contested src)).activeFell, result := .conflict }
  | .enrolled => { state := s.setSlot slot (r.contested src), result := .conflict }
  | .ready => { state := s.setSlot slot (r.contested src), result := .conflict }
  | .excluded => { state := s.setSlot slot (r.contested src), result := .conflict }
  | .lost => { state := s.setSlot slot (r.contested src), result := .conflict }
  | .empty => refuse .conflict s

/-- ENROL judged by the state of the named slot (R21–R24). -/
def enrolNamed (src : SourceId) (slot lanes : Nat) (r : SlotRecord) (s : State) : Answer :=
  if r.state = .empty then accept [] (s.setSlot slot (enrolledRecord src lanes (s.seq.sweep == .arming)))
  else if r.source = some src then enrolOwn slot lanes r s
  else enrolOther src slot r s

/-- ENROL (R20). -/
def enrolBody (src : SourceId) (slot lanes : Byte) (s : State) : Answer :=
  if slot.toNat ≤ 23 ∧ 1 ≤ lanes.toNat ∧ lanes.toNat ≤ 32 then
    match s.heldElsewhere src slot.toNat with
    | some k => refuseWith .conflict (be 1 k) s
    | none => enrolNamed src slot.toNat lanes.toNat (s.slots.get slot.toNat) s
  else refuse .range s

/-- ENROL in the catalogue (R184). -/
def enrolEntry (src : SourceId) (slot lanes : Byte) : Entry :=
  { cls := .probe, lengthOk := true, body := enrolBody src slot lanes }

/-- The command ENROL. -/
def execEnrol (rq : Requester) (slot lanes : Byte) (s : State) : StepOutcome :=
  .next (s.deliver rq (some (enrolEntry rq.source slot lanes)) 2)

-- ==== LEAVE (R26) ====

/-- LEAVE judged against the source's slot (R26). -/
def leaveSlot (slot : Nat) (s : State) : Answer :=
  match (s.slots.get slot).state with
  | .enrolled => accept [] (s.setSlot slot {})
  | .conflict => refuse .conflict s
  | .ready => refuse .busy s
  | .active => refuse .busy s
  | .excluded => refuse .busy s
  | .lost => refuse .busy s
  | .empty => refuse .notEnrolled s

/-- LEAVE (R26). -/
def leaveBody (src : SourceId) (s : State) : Answer :=
  match s.slotOf src with
  | none => refuse .notEnrolled s
  | some slot => leaveSlot slot s

/-- LEAVE in the catalogue (R184). -/
def leaveEntry (src : SourceId) : Entry := { cls := .probe, lengthOk := true, body := leaveBody src }

/-- The command LEAVE. -/
def execLeave (rq : Requester) (s : State) : StepOutcome :=
  .next (s.deliver rq (some (leaveEntry rq.source)) 0)

-- ==== FETCH DRIVES (R30, R47) ====

/-- The page index added to pages fetched (R47). -/
def State.addPage (slot page : Nat) (s : State) : State :=
  s.setSlot slot { s.slots.get slot with pages := (s.slots.get slot).pages ||| BitVec.twoPow 2 page }

/-- FETCH DRIVES judged for the source's slot (R30, cases 2 to 5), and the page served (R47). -/
def fetchSlot (slot : Nat) (page : Nat) (s : State) : Answer :=
  if (s.slots.get slot).state = .conflict then refuse .conflict s
  else if (s.slots.get slot).state = .lost then refuse .lost s
  else if s.seq.sweep = .arming then
    if page < s.pageCount slot then accept (s.drivePage slot page) (s.addPage slot page) else refuse .range s
  else refuse .notNow s

/-- FETCH DRIVES (R30). -/
def fetchDrivesBody (src : SourceId) (page : Byte) (s : State) : Answer :=
  match s.slotOf src with
  | none => refuse .notEnrolled s
  | some slot => fetchSlot slot page.toNat s

/-- FETCH DRIVES in the catalogue (R184). -/
def fetchDrivesEntry (src : SourceId) (page : Byte) : Entry :=
  { cls := .probe, lengthOk := true, body := fetchDrivesBody src page }

/-- The command FETCH_DRIVES. -/
def execFetchDrives (rq : Requester) (page : Byte) (s : State) : StepOutcome :=
  .next (s.deliver rq (some (fetchDrivesEntry rq.source page)) 1)

-- ==== READY (R31) ====

/-- All pages fetched: pages fetched holds every index below the page count (R30). -/
def State.allPages (s : State) (slot : Nat) : Bool :=
  (List.range (s.pageCount slot)).all fun i => (s.slots.get slot).pages.getLsbD i

/-- READY judged for the source's slot (R31, cases 2 to 7). -/
def readySlot (slot : Nat) (s : State) : Answer :=
  if (s.slots.get slot).state = .conflict then refuse .conflict s
  else if (s.slots.get slot).state = .lost then refuse .lost s
  else if s.seq.sweep = .arming then
    if (s.slots.get slot).state = .ready then accept [] s
    else if s.allPages slot then accept [] (s.setSlot slot { s.slots.get slot with state := .ready })
    else refuse .incomplete s
  else refuse .notNow s

/-- READY (R31). -/
def readyBody (src : SourceId) (s : State) : Answer :=
  match s.slotOf src with
  | none => refuse .notEnrolled s
  | some slot => readySlot slot s

/-- READY in the catalogue (R184). -/
def readyEntry (src : SourceId) : Entry := { cls := .probe, lengthOk := true, body := readyBody src }

/-- The command READY. -/
def execReady (rq : Requester) (s : State) : StepOutcome :=
  .next (s.deliver rq (some (readyEntry rq.source)) 0)

-- ==== GET SLOT and RELEASE SLOT (R27, R28) ====

/-- GET SLOT (R28). -/
def getSlotBody (slot : Byte) (s : State) : Answer :=
  if slot.toNat ≤ 23 then accept (s.slots.get slot.toNat).payload s else refuse .range s

/-- GET SLOT in the catalogue (R184). -/
def getSlotEntry (slot : Byte) : Entry := { cls := .station, lengthOk := true, body := getSlotBody slot }

/-- The command GET_SLOT. -/
def execGetSlot (rq : Requester) (slot : Byte) (s : State) : StepOutcome :=
  .next (s.deliver rq (some (getSlotEntry slot)) 1)

/-- A record that RELEASE SLOT may not empty while a sweep runs or stands HALTED (R27, case 3). -/
def SlotRecord.heldBySweep (r : SlotRecord) : Bool :=
  r.participating || (r.state == .conflict && r.lostByConflict)

/-- RELEASE SLOT (R27). -/
def releaseSlotBody (slot : Byte) (s : State) : Answer :=
  if slot.toNat ≤ 23 then
    if (s.slots.get slot.toNat).state = .empty then refuse .empty s
    else if s.seq.sweep.atRest = false ∧ (s.slots.get slot.toNat).heldBySweep then refuse .busy s
    else accept [] (s.setSlot slot.toNat {})
  else refuse .range s

/-- RELEASE SLOT in the catalogue (R184). -/
def releaseSlotEntry (slot : Byte) : Entry := { cls := .station, lengthOk := true, body := releaseSlotBody slot }

/-- The command RELEASE_SLOT. -/
def execReleaseSlot (rq : Requester) (slot : Byte) (s : State) : StepOutcome :=
  .next (s.deliver rq (some (releaseSlotEntry slot)) 1)

end Sys2Proof.Machine
end

