-- ==== Sys2Proof/Machine/Observations.lean ====
section
/-!
DEFINITION. The Observation Table and the Hearing Table: how a lane record is applied, settling, the match test,
accumulation and the hearers lists (R104–R124), and the station's reads of both tables (R118, R122).
-/

namespace Sys2Proof.Machine

/-- The three seen flags (R106, step 2). -/
def Observation.see (lock : Bool) (c : Classified) (o : Observation) : Observation :=
  { o with
    lockSeen := o.lockSeen || lock
    validSeen := o.validSeen || (match c with | .valid _ _ _ => true | .none => false | .garbled => false)
    garbledSeen := o.garbledSeen || (match c with | .garbled => true | .none => false | .valid _ _ _ => false) }

/-- A readable word in settle tracking: the run is raised or begun, and a run of 3 settles the record (R107, R108). -/
def Observation.run (raw : Word) (cls : SettledClass) (heard : Nat) (o : Observation) : Observation :=
  if o.candidate = some raw then
    { o with
      lockRun := o.lockRun + 1
      settled := if o.lockRun + 1 = 3 then some { cls := cls, word := raw, heard := heard } else o.settled }
  else { o with lockRun := 1, candidate := some raw }

/-- Settle tracking of an unsettled record (R107). -/
def Observation.track (raw : Word) (c : Classified) (o : Observation) : Observation :=
  match c with
  | .none => { o with lockRun := 0, candidate := none }
  | .garbled => { o with lockRun := 0, candidate := none }
  | .valid cls heard _ => o.run raw cls heard

/-- Compared units added, saturating at 2^40 − 1 (R110). -/
def Observation.addUnits (n : Nat) (o : Observation) : Observation :=
  if o.units + n > 2 ^ 40 - 1 then { o with units := 2 ^ 40 - 1, unitsSaturated := true }
  else { o with units := o.units + n }

/-- Errors added, saturating at 2^32 − 1; an all-ones field sets errors saturated whatever the sum (R110). -/
def Observation.addErrors (n : Nat) (o : Observation) : Observation :=
  let flagged := o.errorsSaturated || n == 2 ^ 24 - 1
  if o.errors + n > 2 ^ 32 - 1 then { o with errors := 2 ^ 32 - 1, errorsSaturated := true }
  else { o with errors := o.errors + n, errorsSaturated := flagged }

/-- The skew sample a record carries: the 12-bit two's complement number in bits 11–0 (R87, R187). -/
def skewSample (h : Half) : Int := (h.extractLsb' 0 12).toInt

/-- A skew sample taken; −2048 means no sample (R110). -/
def Observation.addSkew (z : Int) (o : Observation) : Observation :=
  if z = -2048 then o else { o with skewSum := o.skewSum + z, skewCount := o.skewCount + 1 }

/-- Accumulation of a match in a MEASURE epoch (R110). -/
def Observation.accumulate (r : LaneRecord) (o : Observation) : Observation :=
  ((o.addUnits r.units.toNat).addErrors r.errors.toNat).addSkew (skewSample r.skew)

/-- A non-match after settling: dropouts rise, saturating at 255 (R109). -/
def Observation.drop (o : Observation) : Observation := { o with dropouts := min (o.dropouts + 1) 255 }

/-- The match test of a settled record and what follows it (R109, R110). -/
def Observation.judge (measure : Bool) (r : LaneRecord) (word : Word) (o : Observation) : Observation :=
  if r.lock = true ∧ r.raw = word then (if measure then o.accumulate r else o) else o.drop

/-- One lane record applied to its observation record (R106); `measure` says that its epoch was a MEASURE epoch. -/
def Observation.apply (generation : Nat) (measure : Bool) (r : LaneRecord) (o : Observation) : Observation :=
  let c := classify generation r.lock r.raw
  let o := o.see r.lock c
  match o.settled with
  | some x => o.judge measure r x.word
  | none => if measure then o else o.track r.raw c

/-- The transmit endpoint whose list a receive end joins: that of a record that has just settled DIRECT or INVERTED
(R108). -/
def joins (before after : Observation) : Option Nat :=
  match before.settled, after.settled with
  | none, some x => (match x.cls with | .direct => some x.heard | .inverted => some x.heard | .stale => none)
  | _, _ => none

/-- A receive endpoint offered to a hearers record (R120). -/
def Hearers.join (rx : Nat) (h : Hearers) : Hearers :=
  if h.list.length < 4 then { h with list := h.list ++ [rx] } else { h with overflow := true }

/-- A receive endpoint joins the hearers list of a transmit endpoint, if it joins one (R120). -/
def State.hear (rx : Nat) (tx : Option Nat) (s : State) : State :=
  match tx with
  | some t => { s with hearing := s.hearing.set t ((s.hearing.get t).join rx) }
  | none => s

/-- One lane record of a taken report applied to receive endpoint `rx` (R96, R106). -/
def State.applyRecord (measure : Bool) (rx : Nat) (r : LaneRecord) (s : State) : State :=
  let before := s.observations.get rx
  let after := before.apply s.generation measure r
  State.hear rx (joins before after) { s with observations := s.observations.set rx after }

/-- START's planned links, on cleared records (R105, R123). -/
def plannedObservations (plan : List (Nat × Link)) : Table Observation Config.endpoints :=
  (Table.replicate _ ({} : Observation)).mapIdx fun e o => { o with planned := coveringRx plan e }

/-- GET OBSERVATION (R118). -/
def getObservationBody (rx : Half) (s : State) : Answer :=
  if rx.toNat ≤ 767 then accept (s.observations.get rx.toNat).payload s else refuse .range s

/-- GET OBSERVATION in the catalogue (R184). -/
def getObservationEntry (rx : Half) : Entry := { cls := .station, lengthOk := true, body := getObservationBody rx }

/-- The command GET_OBSERVATION. -/
def execGetObservation (rq : Requester) (rx : Half) (s : State) : StepOutcome :=
  .next (s.deliver rq (some (getObservationEntry rx)) 2)

/-- GET HEARERS (R122). -/
def getHearersBody (tx : Half) (s : State) : Answer :=
  if tx.toNat ≤ 767 then accept (s.hearing.get tx.toNat).payload s else refuse .range s

/-- GET HEARERS in the catalogue (R184). -/
def getHearersEntry (tx : Half) : Entry := { cls := .station, lengthOk := true, body := getHearersBody tx }

/-- The command GET_HEARERS. -/
def execGetHearers (rq : Requester) (tx : Half) (s : State) : StepOutcome :=
  .next (s.deliver rq (some (getHearersEntry tx)) 2)

end Sys2Proof.Machine
end

