-- ==== Sys2Proof/Machine/Reports.lean ====
section
/-!
DEFINITION. Lane reports: acceptance and taking of REPORT, marker bookkeeping, and QUIET (R87–R103).
-/

namespace Sys2Proof.Machine

-- ==== Acceptance (R89–R95) ====

/-- The sweep state admits reports (R91). -/
def State.admitsReports (s : State) : Bool :=
  match s.seq.sweep with
  | .settle => true
  | .measure => true
  | .stopped _ => true
  | .reduce => s.seq.reduceStart == some s.seq.epoch
  | .idle => false
  | .arming => false
  | .aborting => false
  | .halted _ => false
  | .done => false
  | .aborted => false

/-- A SETTLE epoch or a MEASURE epoch (R59, R88). -/
def EpochPhase.owed : EpochPhase → Bool
  | .settle => true
  | .measure => true
  | .arming => false
  | .afterSweep => false

/-- A lane record in range for group `g` of a slot with the lane count (R95). -/
def recordInRange (g laneCount : Nat) (r : LaneRecord) : Bool :=
  8 * g ≤ r.lane.toNat && r.lane.toNat ≤ 8 * g + 7 && r.lane.toNat < laneCount
    && r.errors.toNat ≤ 2 ^ 24 - 1 && r.skew == (r.skew.extractLsb' 0 12).signExtend 16

/-- The header and every lane record are in range (R95). -/
def reportInRange (g count laneCount : Nat) (records : List LaneRecord) : Bool :=
  g ≤ 3 && 1 ≤ count && count ≤ 8 && records.all (recordInRange g laneCount)
    && decide ((records.map LaneRecord.lane).Nodup)

-- ==== Taking a report (R96) ====

/-- The lanes of the records as a set. -/
def laneSet (records : List LaneRecord) : BitVec 32 :=
  records.foldl (fun acc r => acc ||| BitVec.twoPow 32 r.lane.toNat) 0

/-- The window with a taken report (R93, R96). -/
def ReportWindow.take (g : Nat) (records : List LaneRecord) (w : ReportWindow) : ReportWindow :=
  { groups := w.groups ||| BitVec.twoPow 4 g, lanes := w.lanes ||| laneSet records }

/-- The records handed on one by one, in the order they stand (R96). -/
def State.applyRecords (measure : Bool) (slot : Nat) (records : List LaneRecord) (s : State) : State :=
  records.foldl (fun s r => s.applyRecord measure (endpoint slot r.lane.toNat) r) s

/-- A report that passes every check is taken (R96). -/
def State.takeReport (slot n g : Nat) (records : List LaneRecord) (s : State) : State :=
  State.applyRecords (s.seq.phaseOf n == .measure) slot records
    { s with windows := s.windows.set slot ((s.windows.get slot).take g records) }

/-- The payload of an OK reply: slot, epoch, group, records applied, groups taken (R96; the set's byte: DEDUCED, log 5). -/
def reportPayload (slot n g count : Nat) (w : ReportWindow) : List Byte :=
  be 1 slot ++ be 2 n ++ be 1 g ++ be 1 count ++ be 1 w.groups.toNat

/-- REPORT for slot `slot`, epoch `n`, group `g` (R89). -/
def judgeReport (src : SourceId) (slot n g count : Nat) (records : List LaneRecord) (s : State) : Answer :=
  if slot > 23 ∨ (s.slots.get slot).source ≠ some src then refuse .notEnrolled s
  else if (s.slots.get slot).state = .lost then refuse .lost s
  else if (s.slots.get slot).state ≠ .active ∨ s.admitsReports = false then refuse .notNow s
  else if s.seq.epoch ≤ n ∨ (s.seq.phaseOf n).owed = false then refuse .wrongEpoch s
  else if n + 2 ≤ s.seq.epoch then refuse .late s
  else if (s.windows.get slot).groups.getLsbD g then refuse .duplicate s
  else if reportInRange g count (s.slots.get slot).laneCount records then
    accept (reportPayload slot n g records.length ((s.windows.get slot).take g records))
      (s.takeReport slot n g records)
  else refuse .range s

/-- REPORT with its payload fields as the frame carries them (R87). -/
def reportBody (src : SourceId) (slot : Byte) (epoch : Half) (group count : Byte) (records : List LaneRecord)
    (s : State) : Answer :=
  judgeReport src slot.toNat epoch.toNat group.toNat count.toNat records s

/-- REPORT in the catalogue: its length is judged against the record count byte of its header (R184). -/
def reportEntry (src : SourceId) (slot : Byte) (epoch : Half) (group count : Byte) (records : List LaneRecord) : Entry :=
  { cls := .probe, lengthOk := records.length == count.toNat, body := reportBody src slot epoch group count records }

/-- The command REPORT. -/
def execReport (rq : Requester) (slot : Byte) (epoch : Half) (group count : Byte) (records : List LaneRecord)
    (s : State) : StepOutcome :=
  .next (s.deliver rq (some (reportEntry rq.source slot epoch group count records)) (5 + 15 * records.length))

-- ==== Marker bookkeeping (R88, R98–R100) ====

/-- Every owed group is in groups taken: groups 0 to ceil(L ÷ 8) − 1 (R88). -/
def owedTaken (laneCount : Nat) (w : ReportWindow) : Bool :=
  (List.range ((laneCount + 7) / 8)).all fun g => w.groups.getLsbD g

/-- The missed run of one slot at a marker (R33, R98). -/
def SlotRecord.countMissed (w : ReportWindow) (r : SlotRecord) : SlotRecord :=
  if r.state = .active then
    if owedTaken r.laneCount w then { r with missed := 0 }
    else if r.missed + 1 < 3 then { r with missed := r.missed + 1 }
    else { r with missed := 3, state := .lost }
  else r

/-- A settled lane of an ACTIVE slot that went unreported (R99). -/
def gapAt (s : State) (rx : Nat) (o : Observation) : Bool :=
  (s.slots.get (rx / 32)).state == .active && rx % 32 < (s.slots.get (rx / 32)).laneCount
    && !(s.windows.get (rx / 32)).lanes.getLsbD (rx % 32) && o.settled.isSome

/-- Gap counting at the deadline of a MEASURE epoch (R99). -/
def State.countGaps (s : State) : State :=
  { s with observations := s.observations.mapIdx fun rx o =>
      if gapAt s rx o then { o with gaps := min (o.gaps + 1) 4095 } else o }

/-- Missed-run counting at the deadline of a SETTLE or MEASURE epoch (R98). -/
def State.countMissedRuns (s : State) : State :=
  { s with slots := s.slots.mapIdx fun i r => r.countMissed (s.windows.get i) }

/-- The states whose markers do bookkeeping (R98). -/
def SweepState.books : SweepState → Bool
  | .settle => true
  | .measure => true
  | .reduce => true
  | .aborting => true
  | .idle => false
  | .arming => false
  | .stopped _ => false
  | .halted _ => false
  | .done => false
  | .aborted => false

/-- The bookkeeping of the marker that has just been pulsed: epoch `k − 2` is counted if it was a SETTLE or MEASURE
epoch; gaps are charged before a slot leaves ACTIVE (R98, R99). -/
def State.bookkeep (s : State) : State :=
  if s.seq.sweep.books = true ∧ 2 ≤ s.seq.epoch then
    match s.seq.phaseOf (s.seq.epoch - 2) with
    | .settle => s.countMissedRuns
    | .measure => s.countGaps.countMissedRuns
    | .arming => s
    | .afterSweep => s
  else s

-- ==== QUIET (R102) ====

/-- The slot's quiet acknowledged is set (R102). -/
def State.acknowledge (slot : Nat) (s : State) : State :=
  s.setSlot slot { s.slots.get slot with quietAcked := true }

/-- The reply payload of QUIET: whether it acknowledged the call, and the call's state after it (R102). -/
def quietAnswer (acknowledged : Bool) (s : State) : Answer :=
  accept (yesNo acknowledged ++ be 1 s.seq.quietCall.code) s

/-- QUIET (R102, R74). -/
def quietBody (src : SourceId) (s : State) : Answer :=
  match s.probeSlotOf src with
  | none => quietAnswer false s
  | some slot =>
    if s.seq.quietCall = .pending ∧ (s.slots.get slot).owing = true then
      quietAnswer true (s.acknowledge slot).quietAnswered
    else quietAnswer false s

/-- QUIET in the catalogue (R184). -/
def quietEntry (src : SourceId) : Entry := { cls := .probe, lengthOk := true, body := quietBody src }

/-- The command QUIET. -/
def execQuiet (rq : Requester) (s : State) : StepOutcome :=
  .next (s.deliver rq (some (quietEntry rq.source)) 0)

end Sys2Proof.Machine
end

