-- ==== Sys2Proof/Machine/Sequencer.lean ====
section
/-!
DEFINITION. The Epoch Sequencer: the epoch timer and its markers, START, ABORT, CONTINUE, CLEAR HALT, RESET CAMPAIGN,
HOLD, SET TIMING, GET TIMING and STATUS, and device reset (R55–R86, R191).
-/

namespace Sys2Proof.Machine

-- ==== The marker (R57, R58, R62–R67, R75) ====

/-- The roster's changes at the end of ARMING (R32). -/
def SlotRecord.endArming (r : SlotRecord) : SlotRecord :=
  match r.state with
  | .ready => { r with state := .active, activated := true }
  | .enrolled => if r.participating then { r with state := .excluded } else r
  | .empty => r
  | .conflict => r
  | .active => r
  | .excluded => r
  | .lost => r

/-- ARMING ends with some slot READY (R63). -/
def State.armed (s : State) : State :=
  let s := { s with slots := s.slots.map SlotRecord.endArming, seq := { s.seq with s0 := some s.seq.epoch } }
  if s.timing.stopArming then s.enterStopped .settle else { s with seq := { s.seq with sweep := .settle } }

/-- The test of ARMING at a marker (R62, R63). -/
def State.testArming (s : State) : State :=
  if (s.unreadyCount = 0 ∧ 0 < s.readyCount) ∨ s.seq.epoch = s.timing.arming then
    if 0 < s.readyCount then s.armed else (s.setCause .noneReady).enterTerminal .aborted
  else s

/-- An endpoint of the settle set (R64, R116). -/
def inSettleSet (s : State) (rx : Nat) (o : Observation) : Bool :=
  (s.slots.get (rx / 32)).state == .active && rx % 32 < (s.slots.get (rx / 32)).laneCount && o.planned.isSome

/-- Every endpoint of the settle set is settled (R116). -/
def State.allSettled (s : State) : Bool :=
  (s.observations.first fun rx o => inSettleSet s rx o && !o.settled.isSome).isNone

/-- SETTLE ends at this marker (R65). -/
def State.endSettle (s : State) : State :=
  let s := { s with seq := { s.seq with m0 := some s.seq.epoch } }
  if s.timing.stopSettle then s.enterStopped .measure else { s with seq := { s.seq with sweep := .measure } }

/-- The test of SETTLE at a marker (R64). -/
def State.testSettle (s : State) : State :=
  if s.allSettled = true ∨ s.seq.s0.map (· + s.timing.window) = some s.seq.epoch then s.endSettle else s

/-- MEASURE ends at this marker (R66). -/
def State.endMeasure (s : State) : State :=
  let s := { s with seq := { s.seq with
    reduceStart := some s.seq.epoch, closing := some s.seq.epoch, hold := 0 } }
  if s.timing.stopMeasure then s.enterStopped .reduce
  else { s.startQuietCall with seq := { s.startQuietCall.seq with sweep := .reduce } }

/-- The test of MEASURE at a marker (R66). -/
def State.testMeasure (s : State) : State :=
  if s.seq.m0.map (· + s.timing.measure) = some s.seq.epoch then s.endMeasure else s

/-- Evaluation starts: stage LINKS at the lowest link id in use (R67, R140). -/
def State.startEvaluation (s : State) : State :=
  let s := { s with seq := { s.seq with evaluation := .running } }
  match s.usedIdFrom 0 with
  | some k => { s with cursor := { s.cursor with stage := .links, position := some k } }
  | none => { s with cursor := { s.cursor with stage := .unplanned, position := some 0 } }

/-- The evaluation start of REDUCE at a marker (R67). -/
def State.testReduce (s : State) : State :=
  if s.seq.reduceStart.map (· + 1) = some s.seq.epoch then s.startEvaluation else s

/-- The quiet deadline at a marker (R75). -/
def State.testDeadline (o : HaltOrigin) (s : State) : State :=
  if s.seq.quietCall = .pending ∧ s.seq.quietDeadline = some s.seq.epoch ∧ s.someOwing = true then s.enterHalted o
  else s

/-- The sequencer's own work at a marker, by the state in force (R58). `fell` says that this marker's bookkeeping brought
the ACTIVE count to 0, and then the ALL_LOST abort takes the place of the phase test (R72). -/
def State.phaseTest (fell : Bool) (s : State) : State :=
  match s.seq.sweep with
  | .arming => s.testArming
  | .settle => if fell then s.allLost else s.testSettle
  | .measure => if fell then s.allLost else s.testMeasure
  | .reduce => s.testReduce.testDeadline .reduce
  | .aborting => s.testDeadline .aborting
  | .idle => s
  | .stopped _ => s
  | .halted _ => s
  | .done => s
  | .aborted => s

/-- The epoch number rises by one, the pulse is put on EPOCH and the timer is reloaded (R57, R58). -/
def State.pulse (s : State) : State :=
  { s with
    seq := { s.seq with epoch := s.seq.epoch + 1, timer := .running s.timing.period }
    lines := { s.lines with epochPulse := true } }

/-- A marker other than marker 0: bookkeeping, the windows emptied, the phase test (R58, R98–R100). -/
def State.marker (s : State) : State :=
  let p := s.pulse
  let b := p.bookkeep
  (b.emptyWindows).phaseTest (0 < p.activeCount && b.activeCount == 0)

/-- The timer expires: a reload while hold remaining is above 0, else a marker; at epoch 65535 the timer stops
(R57, R82). -/
def State.expire (s : State) : State :=
  if 0 < s.seq.hold then
    { s with seq := { s.seq with hold := s.seq.hold - 1, timer := .running s.timing.period } }
  else if s.seq.epoch = 65535 then { s with seq := { s.seq with timer := .haltedOff } }
  else s.marker

/-- The command EPOCH_TIMER_EXPIRY. A timer that is not RUNNING does not expire (R55, R57; log 7). -/
def execEpochTimerExpiry (s : State) : StepOutcome :=
  let s := s.quietLines
  match s.seq.timer with
  | .running _ => .next (s.expire).driveAttn
  | .suspended => .next s
  | .haltedOff => .next s

-- ==== START (R60, R61) ====

/-- A slot at START (R29, R39). -/
def SlotRecord.atStart (r : SlotRecord) : SlotRecord :=
  { r with
    participating := r.state == .enrolled, pages := 0, missed := 0, activated := false, lostByConflict := false,
    holdCharged := 0, quietOwed := false, quietAcked := false }

/-- A START that is taken (R61). -/
def State.startSweep (s : State) : State :=
  { s with
    generation := nextGeneration s.generation
    observations := plannedObservations s.usedLinks
    hearing := Table.replicate _ {}
    verdicts := Table.replicate _ {}
    findings := []
    nextSeq := 0
    cursor := {}
    slots := s.slots.map SlotRecord.atStart
    windows := Table.replicate _ {}
    seq := { sweep := .arming, timer := .running s.timing.period }
    lines := { s.lines with epochPulse := true } }

/-- START in a state at rest: the emptiness check, else START is taken (R60). -/
def startAtRest (s : State) : Answer :=
  if s.linkCount = 0 ∨ s.enrolledCount = 0 then refuse .empty s
  else accept (be 1 (nextGeneration s.generation)) s.startSweep

/-- START (R60). -/
def startBody (s : State) : Answer :=
  match s.seq.sweep with
  | .idle => startAtRest s
  | .done => startAtRest s
  | .aborted => startAtRest s
  | .halted _ => refuse .notNow s
  | .arming => refuse .busy s
  | .settle => refuse .busy s
  | .measure => refuse .busy s
  | .stopped _ => refuse .busy s
  | .reduce => refuse .busy s
  | .aborting => refuse .busy s

/-- START in the catalogue (R184). -/
def startEntry : Entry := { cls := .station, lengthOk := true, body := startBody }

/-- The command START. -/
def execStart (rq : Requester) (s : State) : StepOutcome :=
  .next (s.deliver rq (some startEntry) 0)

-- ==== ABORT (R71) ====

/-- ABORT (R71). -/
def abortBody (s : State) : Answer :=
  match s.seq.sweep with
  | .idle => refuse .notNow s
  | .done => refuse .notNow s
  | .aborted => refuse .notNow s
  | .halted _ => refuse .notNow s
  | .arming => accept [] (s.abortSweep .station)
  | .settle => accept [] (s.abortSweep .station)
  | .measure => accept [] (s.abortSweep .station)
  | .stopped _ => accept [] (s.abortSweep .station)
  | .reduce => accept [] (s.abortSweep .station)
  | .aborting => accept [] (s.abortSweep .station)

/-- ABORT in the catalogue (R184). -/
def abortEntry : Entry := { cls := .station, lengthOk := true, body := abortBody }

/-- The command ABORT. -/
def execAbort (rq : Requester) (s : State) : StepOutcome :=
  .next (s.deliver rq (some abortEntry) 0)

-- ==== CONTINUE (R70) ====

/-- The sweep state becomes the resume phase and the timer restarts with one full period (R70). -/
def State.resume (p : SweepState) (s : State) : State :=
  { s with seq := { s.seq with sweep := p, timer := .running s.timing.period } }

/-- CONTINUE (R70). -/
def continueBody (s : State) : Answer :=
  match s.seq.sweep with
  | .stopped .settle => accept [] (s.resume .settle)
  | .stopped .measure => accept [] (s.resume .measure)
  | .stopped .reduce => accept [] (s.resume .reduce).startQuietCall
  | .idle => refuse .notNow s
  | .arming => refuse .notNow s
  | .settle => refuse .notNow s
  | .measure => refuse .notNow s
  | .reduce => refuse .notNow s
  | .aborting => refuse .notNow s
  | .halted _ => refuse .notNow s
  | .done => refuse .notNow s
  | .aborted => refuse .notNow s

/-- CONTINUE in the catalogue (R184). -/
def continueEntry : Entry := { cls := .station, lengthOk := true, body := continueBody }

/-- The command CONTINUE. -/
def execContinue (rq : Requester) (s : State) : StepOutcome :=
  .next (s.deliver rq (some continueEntry) 0)

-- ==== CLEAR HALT (R77) ====

/-- A slot of the owing set acknowledged (R36, R77). -/
def SlotRecord.settleQuiet (r : SlotRecord) : SlotRecord :=
  if r.owing then { r with quietAcked := true } else r

/-- Every owing slot acknowledged and the quiet call COMPLETE (R77). -/
def State.answerQuiet (s : State) : State :=
  { s with slots := s.slots.map SlotRecord.settleQuiet, seq := { s.seq with quietCall := .complete } }

/-- Where CLEAR HALT leads (R77). -/
def State.leaveHalt (o : HaltOrigin) (s : State) : State :=
  match o with
  | .aborting => s.enterTerminal .aborted
  | .reduce =>
    if s.seq.evaluation = .complete then s.enterTerminal .done
    else { s with seq := { s.seq with sweep := .reduce, timer := .running s.timing.period } }

/-- CLEAR HALT (R77). -/
def clearHaltBody (s : State) : Answer :=
  match s.seq.sweep with
  | .halted o => accept [] (s.answerQuiet.leaveHalt o)
  | .idle => refuse .notNow s
  | .arming => refuse .notNow s
  | .settle => refuse .notNow s
  | .measure => refuse .notNow s
  | .stopped _ => refuse .notNow s
  | .reduce => refuse .notNow s
  | .aborting => refuse .notNow s
  | .done => refuse .notNow s
  | .aborted => refuse .notNow s

/-- CLEAR HALT in the catalogue (R184). -/
def clearHaltEntry : Entry := { cls := .station, lengthOk := true, body := clearHaltBody }

/-- The command CLEAR_HALT. -/
def execClearHalt (rq : Requester) (s : State) : StepOutcome :=
  .next (s.deliver rq (some clearHaltEntry) 0)

-- ==== RESET CAMPAIGN (R79) and device reset (R86) ====

/-- Every block at its campaign-reset values: the class table, the settings, the generation, state-seen and the port are
kept (R17, R39, R40, R86, R93, R123, R137, R139, R163, R171, R175). -/
def State.campaignReset (s : State) : State :=
  { s with
    links := Table.replicate _ none
    slots := Table.replicate _ {}
    windows := Table.replicate _ {}
    seq := {}
    observations := Table.replicate _ {}
    hearing := Table.replicate _ {}
    cursor := {}
    verdicts := Table.replicate _ {}
    findings := []
    nextSeq := 0 }

/-- RESET CAMPAIGN (R79). -/
def resetCampaignBody (s : State) : Answer :=
  match s.seq.sweep with
  | .idle => accept [] s.campaignReset
  | .done => accept [] s.campaignReset
  | .aborted => accept [] s.campaignReset
  | .halted _ => refuse .notNow s
  | .arming => refuse .busy s
  | .settle => refuse .busy s
  | .measure => refuse .busy s
  | .stopped _ => refuse .busy s
  | .reduce => refuse .busy s
  | .aborting => refuse .busy s

/-- RESET CAMPAIGN in the catalogue (R184). -/
def resetCampaignEntry : Entry := { cls := .station, lengthOk := true, body := resetCampaignBody }

/-- The command RESET_CAMPAIGN. -/
def execResetCampaign (rq : Requester) (s : State) : StepOutcome :=
  .next (s.deliver rq (some resetCampaignEntry) 0)

/-- The command DEVICE_RESET: power-on or assertion of RESETn. Every block takes its device-reset values and RESETn is
low, so that the part acknowledges no byte until RESETN_RELEASE (R86, R174, R175). The commands waiting are events of
the outside world and stay; the target address is relatched when the reset ends (log 3). -/
def execDeviceReset (s : State) : StepOutcome :=
  .next { State.reset with
    pending := s.pending
    port := { State.reset.port with target := s.port.target }
    lines := { resetN := false } }

/-- The target address the straps give: 0x5C plus ADDR1 and ADDR0 read as a two-bit number (R174). -/
def strapAddress (addr1 addr0 : Bool) : BitVec 7 :=
  Config.targetBase + (if addr1 then 2 else 0) + (if addr0 then 1 else 0)

/-- The command RESETN_RELEASE: RESETn rises, the straps are latched and the part begins acknowledging bytes (R174). A
RESETn that is already high does not rise (log 7). -/
def execResetnRelease (addr1 addr0 : Bool) (s : State) : StepOutcome :=
  let s := s.quietLines
  if s.lines.resetN then .next s
  else .next { s with
    port := { s.port with target := strapAddress addr1 addr0 }
    lines := { s.lines with resetN := true } }

-- ==== HOLD (R80, R81) ====

/-- The requested length clamped to 1..8 (R81, step 1). -/
def clampHold (h : Nat) : Nat := max 1 (min h 8)

/-- The payload of HOLD: the granted increase, hold remaining and the slot's hold charged after the request (R81). -/
def State.holdPayload (granted slot : Nat) (s : State) : List Byte :=
  be 1 granted ++ be 1 s.seq.hold ++ be 1 (s.slots.get slot).holdCharged

/-- Hold remaining and the slot's charge rise by the granted increase (R81, step 5). -/
def State.grantHold (slot granted : Nat) (s : State) : State :=
  { s with
    seq := { s.seq with hold := s.seq.hold + granted }
    slots := s.slots.set slot
      { s.slots.get slot with holdCharged := (s.slots.get slot).holdCharged + granted } }

/-- A HOLD that passes R80 (R81). -/
def holdGranted (slot h : Nat) (s : State) : Answer :=
  let wanted := clampHold h - s.seq.hold
  let left := s.timing.allowance - (s.slots.get slot).holdCharged
  let granted := min wanted left
  if 0 < wanted ∧ left = 0 then refuseWith .exhausted (s.holdPayload 0 slot) s
  else
    let t := s.grantHold slot granted
    { state := t
      result := if clampHold h ≠ h ∨ granted < wanted then .clamped else .ok
      payload := t.holdPayload granted slot }

/-- HOLD judged for the source's slot (R80, cases 2 to 5). -/
def holdSlot (slot h : Nat) (s : State) : Answer :=
  if (s.slots.get slot).state = .conflict then refuse .conflict s
  else if (s.slots.get slot).state = .lost then refuse .lost s
  else if (s.seq.sweep = .settle ∨ s.seq.sweep = .measure) ∧ (s.slots.get slot).state = .active then
    holdGranted slot h s
  else refuse .notNow s

/-- HOLD (R80). -/
def holdBody (src : SourceId) (h : Byte) (s : State) : Answer :=
  match s.slotOf src with
  | none => refuse .notEnrolled s
  | some slot => holdSlot slot h.toNat s

/-- HOLD in the catalogue (R184). -/
def holdEntry (src : SourceId) (h : Byte) : Entry := { cls := .probe, lengthOk := true, body := holdBody src h }

/-- The command HOLD. -/
def execHold (rq : Requester) (h : Byte) (s : State) : StepOutcome :=
  .next (s.deliver rq (some (holdEntry rq.source h)) 1)

-- ==== SET TIMING and GET TIMING (R83, R84) ====

/-- A value clamped into its range (R83). -/
def clampTo (low high v : Nat) : Nat := max low (min v high)

/-- The settings a SET TIMING carries, each clamped into its range (R83). -/
def timingOf (f : TimingFields) : Timing :=
  { period := clampTo 10 2000 f.period.toNat
    arming := clampTo 1 255 f.arming.toNat
    window := clampTo 4 255 f.window.toNat
    measure := clampTo 1 4096 f.measure.toNat
    allowance := clampTo 0 63 f.allowance.toNat
    stopArming := f.stops.getLsbD 0
    stopSettle := f.stops.getLsbD 1
    stopMeasure := f.stops.getLsbD 2 }

/-- No value of a SET TIMING needs clamping (R83). -/
def timingInRange (f : TimingFields) : Bool :=
  (timingOf f).period == f.period.toNat && (timingOf f).arming == f.arming.toNat
    && (timingOf f).window == f.window.toNat && (timingOf f).measure == f.measure.toNat
    && (timingOf f).allowance == f.allowance.toNat

/-- SET TIMING (R83). -/
def setTimingBody (f : TimingFields) (s : State) : Answer :=
  if s.seq.sweep.atRest then
    { state := { s with timing := timingOf f }
      result := if timingInRange f then .ok else .clamped
      payload := (timingOf f).payload }
  else refuse .busy s

/-- SET TIMING in the catalogue (R184). -/
def setTimingEntry (f : TimingFields) : Entry := { cls := .station, lengthOk := true, body := setTimingBody f }

/-- The command SET_TIMING. -/
def execSetTiming (rq : Requester) (f : TimingFields) (s : State) : StepOutcome :=
  .next (s.deliver rq (some (setTimingEntry f)) 10)

/-- GET TIMING (R84). -/
def getTimingBody (s : State) : Answer := accept s.timing.payload s

/-- GET TIMING in the catalogue (R184). -/
def getTimingEntry : Entry := { cls := .station, lengthOk := true, body := getTimingBody }

/-- The command GET_TIMING. -/
def execGetTiming (rq : Requester) (s : State) : StepOutcome :=
  .next (s.deliver rq (some getTimingEntry) 0)

-- ==== STATUS (R85, R171) ====

/-- STATUS: from a station-class source it also sets state-seen (R85, R171). -/
def statusBody (src : SourceId) (s : State) : Answer :=
  accept s.statusPayload (if isStation src then s.setSeen else s)

/-- STATUS in the catalogue (R184). -/
def statusEntry (src : SourceId) : Entry := { cls := .both, lengthOk := true, body := statusBody src }

/-- The command STATUS. -/
def execStatus (rq : Requester) (s : State) : StepOutcome :=
  .next (s.deliver rq (some (statusEntry rq.source)) 0)

end Sys2Proof.Machine
end

