-- ==== Sys2Proof/Machine/Margin.lean ====
section
/-!
DEFINITION. The margin and skew arithmetic of the Verdict Engine (R125–R138).
-/

namespace Sys2Proof.Machine

/-- Compared bits C of a lane (R126). -/
def Observation.bits (o : Observation) : Nat := o.units * 256

/-- The margin figure from compared bits `c` and error count `e`, by the engine's steps (R128). `Nat.log2` is the
position of the highest set bit. -/
def marginFigure (c e : Nat) : Nat :=
  if c = 0 then 0
  else if Nat.log2 c < Nat.log2 (e + 3) then 0
  else if c < (e + 3) * 2 ^ (Nat.log2 c - Nat.log2 (e + 3)) then Nat.log2 c - Nat.log2 (e + 3) - 1
  else Nat.log2 c - Nat.log2 (e + 3)

/-- The margin figure of a lane (R126–R128). -/
def Observation.figure (o : Observation) : Nat := marginFigure o.bits o.errors

/-- A saturation flag is set (R131). -/
def Observation.saturated (o : Observation) : Bool := o.unitsSaturated || o.errorsSaturated

/-- The lane outcome by margin (R130). -/
def outcomeByMargin (q e : Nat) (k : ClassRecord) : Verdict :=
  if k.qreq ≤ q then .pass
  else if e = 0 then .unproven
  else if k.qreq ≤ q + k.band then .marginal
  else .errors

/-- The least of a list of numbers, absent when there is none. -/
def least : List Nat → Option Nat
  | [] => none
  | a :: l => match least l with
    | none => some a
    | some b => some (min a b)

/-- The margin figure of a link: the least figure among its lanes whose compared units total is above 0 (R132). -/
def linkMargin (lanes : List Observation) : Option Nat :=
  least ((lanes.filter fun o => 0 < o.units).map Observation.figure)

/-- The average skew of a lane with samples: the quotient rounded toward minus infinity (R133). -/
def Observation.average (o : Observation) : Option Int :=
  if 0 < o.skewCount then some (o.skewSum / (o.skewCount : Int)) else none

/-- The averages of the sampled lanes (R134). -/
def sampledAverages (lanes : List Observation) : List Int := lanes.filterMap Observation.average

/-- The largest of a first value and a list. -/
def largest (a : Int) (l : List Int) : Int := l.foldl max a

/-- The smallest of a first value and a list. -/
def smallest (a : Int) (l : List Int) : Int := l.foldl min a

/-- The link skew: the largest average less the smallest, present with two or more sampled lanes (R134). -/
def linkSkew (lanes : List Observation) : Option Nat :=
  match sampledAverages lanes with
  | a :: b :: l => some (largest a (b :: l) - smallest a (b :: l)).toNat
  | _ => none

/-- The link outcome SKEW: the link skew is above the budget, both present (R136). -/
def skewExceeded (budget skew : Option Nat) : Bool :=
  match budget, skew with
  | some b, some k => b < k
  | _, _ => false

end Sys2Proof.Machine
end

