-- ==== Sys2Proof/Machine/Verdicts.lean ====
section
/-!
DEFINITION. The Verdict Engine: lane outcomes, link verdicts, verdict records, findings, the steps of the pass, and GET
VERDICT (R139–R161).
-/

namespace Sys2Proof.Machine

-- ==== What the engine reads for a link (R125, R142) ====

/-- The lane indexes of a link. -/
def Link.lanes (l : Link) : List Nat := List.range l.width

/-- The receive endpoint of lane i (R1). -/
def Link.rxOf (l : Link) (i : Nat) : Nat := l.rxStart + i

/-- The observation record of lane i (R125). -/
def State.laneRecord (s : State) (l : Link) (i : Nat) : Observation := s.observations.get (l.rxOf i)

/-- The observation records of a link's lanes in order. -/
def State.laneRecords (s : State) (l : Link) : List Observation := l.lanes.map (s.laneRecord l)

/-- The drawn partner of lane i (R142). -/
def Link.drawn (l : Link) (i : Nat) : Nat := l.txStart + i

/-- The reversed partner of lane i (R142). -/
def Link.mirrored (l : Link) (i : Nat) : Nat := l.txStart + (l.width - 1 - i)

/-- The transmit endpoint of a record settled DIRECT or INVERTED (R142). -/
def Observation.hearing (o : Observation) : Option Nat :=
  match o.settled with
  | some x => (match x.cls with | .direct => some x.heard | .inverted => some x.heard | .stale => none)
  | none => none

/-- Reversal is seen (R142). -/
def State.reversalSeen (s : State) (l : Link) : Bool :=
  2 ≤ l.width && l.lanes.all fun i => (s.laneRecord l i).hearing == some (l.mirrored i)

/-- The link is judged in reversed order (R143). -/
def State.judgedReversed (s : State) (l : Link) : Bool := s.reversalSeen l && l.reversal

/-- The expected transmit endpoint of lane i (R143). -/
def State.expected (s : State) (l : Link) (i : Nat) : Nat :=
  if s.judgedReversed l then l.mirrored i else l.drawn i

-- ==== Lane outcomes (R144–R149) ====

/-- What the roster tells of a receiving slot (R38); `none` is tested. -/
def SlotRecord.receives (r : SlotRecord) : Option UntestedReason :=
  if r.state = .active then none else if r.isLost then some .rxLost else some .noRxProbe

/-- The untested reason of a lane, from its receiving slot, its transmitting slot and its lanes (R144). -/
def untestedReason (rx tx : SlotRecord) (rxLane txLane : Nat) : Option UntestedReason :=
  match rx.receives with
  | some why => some why
  | none =>
    if rx.laneCount ≤ rxLane then some .rxLaneAbsent
    else if tx.activated = false then some .noTxProbe
    else if tx.laneCount ≤ txLane then some .txLaneAbsent
    else none

/-- The untested reason of lane i of a link (R144). -/
def State.laneUntested (s : State) (l : Link) (i : Nat) : Option UntestedReason :=
  untestedReason (s.slots.get l.rxSlot) (s.slots.get l.txSlot) (l.rxBase + i) (s.expected l i % 32)

/-- The outcome of a lane that never settled (R145). -/
def unsettledOutcome (o : Observation) : Verdict :=
  if o.lockSeen = false then .open else if o.validSeen then .unstable else .garbled

/-- A hearers record that shows a bridge (R147). -/
def Hearers.bridged (h : Hearers) : Bool := 2 ≤ h.list.length || h.overflow

/-- What a lane's judgement gives: its outcome, whether it reached check 7 INVERTED with a correction, and whether it
reached the error stage (R148, R149). -/
structure LaneJudgement where
  outcome    : Verdict
  reason     : Option UntestedReason := none
  invertedOk : Bool := false
  judged     : Bool := false
deriving DecidableEq, Repr, Inhabited

/-- Checks 6 to 8 of a lane settled on its expected endpoint (R148, R149). -/
def judgeSteady (l : Link) (k : ClassRecord) (o : Observation) (inverted : Bool) : LaneJudgement :=
  if 0 < o.dropouts then { outcome := .unstable }
  else if inverted = true ∧ l.polarity = false then { outcome := .polarity }
  else { outcome := outcomeByMargin o.figure o.errors k, invertedOk := inverted, judged := true }

/-- Checks 4 to 8 of a lane settled DIRECT or INVERTED (R146–R149). -/
def judgeHeard (l : Link) (k : ClassRecord) (o : Observation) (h : Hearers) (expected heard : Nat) (inverted : Bool) :
    LaneJudgement :=
  if heard ≠ expected then { outcome := if l.coversTx heard then .order else .misrouted }
  else if h.bridged then { outcome := .bridged }
  else judgeSteady l k o inverted

/-- Checks 2 to 8 of a tested lane (R145–R149). -/
def judgeTested (l : Link) (k : ClassRecord) (o : Observation) (h : Hearers) (expected : Nat) : LaneJudgement :=
  match o.settled with
  | none => { outcome := unsettledOutcome o }
  | some x =>
    match x.cls with
    | .stale => { outcome := .stale }
    | .direct => judgeHeard l k o h expected x.heard false
    | .inverted => judgeHeard l k o h expected x.heard true

/-- The judgement of lane i of a link (R144–R149). -/
def State.judgeLane (s : State) (l : Link) (i : Nat) : LaneJudgement :=
  match s.laneUntested l i with
  | some why => { outcome := .untested, reason := some why }
  | none =>
    judgeTested l (s.classes.get l.lossClass) (s.laneRecord l i) (s.hearing.get (s.expected l i)) (s.expected l i)

-- ==== The link verdict and its record (R150–R152) ====

/-- The more severe of two verdicts, by the ranks of R150. -/
def moreSevere (a b : Verdict) : Verdict := if a.code ≤ b.code then a else b

/-- The most severe of the lane outcomes and the SKEW outcome (R150). -/
def linkVerdict (outcomes : List Verdict) (skew : Bool) : Verdict :=
  outcomes.foldl moreSevere (if skew then .skew else .pass)

/-- The lowest index, counting from `i`, of a lane that meets `p`; 0 when none does. -/
def lowestLane {α : Type} (p : α → Bool) (l : List α) : Nat := (firstFrom (fun _ a => p a) 0 l).getD 0

/-- A lane whose average is the largest or the smallest of the link (R151). -/
def atExtreme (lanes : List Observation) (o : Observation) : Bool :=
  match sampledAverages lanes, o.average with
  | a :: l, some z => z == largest a l || z == smallest a l
  | _, _ => false

/-- The worst lane (R151). -/
def worstLane (v : Verdict) (judgements : List LaneJudgement) (lanes : List Observation) : Nat :=
  if v = .skew then lowestLane (atExtreme lanes) lanes
  else lowestLane (fun j => j.outcome == v) judgements

/-- A lane's figure was computed: it enters the link's margin figure, or it was judged at the error stage (R131). -/
def computedFigure (j : LaneJudgement) (o : Observation) : Bool := 0 < o.units || j.judged

/-- The notes of a link (R152). -/
def linkNotes (reversed : Bool) (judgements : List LaneJudgement) (lanes : List Observation) : Notes :=
  { reversed := reversed
    invertedOk := judgements.any LaneJudgement.invertedOk
    saturated := (judgements.zip lanes).any fun p => computedFigure p.1 p.2 && p.2.saturated }

/-- The verdict record of a link from its lanes (R151). -/
def verdictOf (l : Link) (reversed : Bool) (judgements : List LaneJudgement) (lanes : List Observation) : VerdictRecord :=
  let skew := linkSkew lanes
  let v := linkVerdict (judgements.map LaneJudgement.outcome) (skewExceeded l.budget skew)
  let w := worstLane v judgements lanes
  { verdict := v
    worstLane := w
    reason := if v = .untested then (judgements.getD w default).reason else none
    margin := linkMargin lanes
    skew := skew
    notes := linkNotes reversed judgements lanes }

/-- The verdict record the engine writes for a link (R141, R151). -/
def State.evaluate (s : State) (l : Link) : VerdictRecord :=
  verdictOf l (s.judgedReversed l) (l.lanes.map (s.judgeLane l)) (s.laneRecords l)

-- ==== Findings (R153, R154) ====

/-- The heard endpoint and class of a settled record (R153). -/
def Observation.heardItem (o : Observation) : Option Heard :=
  o.settled.map fun x => { endpoint := x.heard, cls := x.cls }

/-- The LINK finding of a link that did not pass (R153). -/
def State.linkFinding (s : State) (id : Nat) (l : Link) (v : VerdictRecord) : Finding :=
  { kind := .link, linkId := some id, rx := l.rxOf v.worstLane, verdict := v.verdict,
    heard := (s.laneRecord l v.worstLane).heardItem, margin := v.margin, skew := v.skew, notes := v.notes }

/-- The UNPLANNED finding of a settled receive endpoint (R138, R154). -/
def unplannedFinding (rx : Nat) (o : Observation) : Finding :=
  { kind := .unplanned, linkId := none, rx := rx, verdict := .unplanned, heard := o.heardItem,
    margin := if 0 < o.units then some o.figure else none, skew := none, notes := { saturated := o.saturated } }

-- ==== The steps of the pass (R140, R141, R154–R156) ====

/-- The engine takes steps in REDUCE and in HALTED (R140, R159). -/
def SweepState.evaluates : SweepState → Bool
  | .reduce => true
  | .halted _ => true
  | .idle => false
  | .arming => false
  | .settle => false
  | .measure => false
  | .stopped _ => false
  | .aborting => false
  | .done => false
  | .aborted => false

/-- The verdict record of a link written whole (R141, step 5). -/
def State.writeVerdict (id : Nat) (v : VerdictRecord) (s : State) : State := { s with verdicts := s.verdicts.set id v }

/-- The step for link `id` (R141). -/
def State.stepLink (id : Nat) (l : Link) (s : State) : State :=
  let v := s.evaluate l
  let t := s.writeVerdict id v
  if v.verdict = .pass then t.advance else t.offer (s.linkFinding id l v)

/-- The step for receive endpoint `rx` (R154). -/
def State.stepUnplanned (rx : Nat) (s : State) : State :=
  let o := s.observations.get rx
  if o.planned.isNone = true ∧ o.settled.isSome = true then s.offer (unplannedFinding rx o) else s.advance

/-- The link the engine takes next: it is working in LINKS, not waiting, and the position holds a link (R139, R140). -/
def State.nextLink (s : State) : Option (Nat × Link) :=
  if s.seq.sweep.evaluates = true ∧ s.cursor.stage = .links ∧ s.cursor.pendingFinding = none then
    match s.cursor.position with
    | some k => (s.links.get k).map fun l => (k, l)
    | none => none
  else none

/-- The receive endpoint the engine takes next (R139, R140). -/
def State.nextUnplanned (s : State) : Option Nat :=
  if s.seq.sweep.evaluates = true ∧ s.cursor.stage = .unplanned ∧ s.cursor.pendingFinding = none then s.cursor.position
  else none

/-- The command LINK_EVALUATION_STEP. Where the engine has no link to take it takes no step (R140, R156; log 7). -/
def execLinkEvaluationStep (s : State) : StepOutcome :=
  let s := s.quietLines
  match s.nextLink with
  | some (k, l) => .next (s.stepLink k l).driveAttn
  | none => .next s

/-- The command UNPLANNED_SCAN_STEP. Where the engine has no endpoint to take it takes no step (R140, R156; log 7). -/
def execUnplannedScanStep (s : State) : StepOutcome :=
  let s := s.quietLines
  match s.nextUnplanned with
  | some rx => .next (s.stepUnplanned rx).driveAttn
  | none => .next s

-- ==== GET VERDICT (R161) ====

/-- GET VERDICT (R161). -/
def getVerdictBody (id : Half) (s : State) : Answer :=
  if id.toNat ≤ 511 then accept (s.verdicts.get id.toNat).payload s else refuse .range s

/-- GET VERDICT in the catalogue (R184). -/
def getVerdictEntry (id : Half) : Entry := { cls := .station, lengthOk := true, body := getVerdictBody id }

/-- The command GET_VERDICT. -/
def execGetVerdict (rq : Requester) (id : Half) (s : State) : StepOutcome :=
  .next (s.deliver rq (some (getVerdictEntry id)) 2)

end Sys2Proof.Machine
end

