-- ==== Sys2Proof/Machine/Findings.lean ====
section
/-!
DEFINITION. The station's requests on the Finding Queue: PEEK FINDING and RELEASE FINDING (R162–R169).
-/

namespace Sys2Proof.Machine

/-- The payload of PEEK FINDING: the head, then the number of findings queued (R166). -/
def State.peekPayload (s : State) (head : QueuedFinding) : List Byte := head.payload ++ be 1 s.findings.length

/-- PEEK FINDING (R166). -/
def peekFindingBody (s : State) : Answer :=
  match s.findings with
  | [] => refuse .empty s
  | head :: _ => accept (s.peekPayload head) s

/-- PEEK FINDING in the catalogue (R184). -/
def peekFindingEntry : Entry := { cls := .station, lengthOk := true, body := peekFindingBody }

/-- The command PEEK_FINDING. -/
def execPeekFinding (rq : Requester) (s : State) : StepOutcome :=
  .next (s.deliver rq (some peekFindingEntry) 0)

/-- The pending finding pushed into the place freed: waiting ends and the position moves on (R156, R164, R167). -/
def State.pushPending (f : Finding) (s : State) : State :=
  (State.pushFinding f { s with cursor := { s.cursor with pendingFinding := none } }).advance

/-- The payload of an OK release: the number, the findings queued after the event, pushed yes or no (R167). -/
def releasePayload (seq : Nat) (pushed : Bool) (s : State) : List Byte :=
  be 2 seq ++ be 1 s.findings.length ++ yesNo pushed

/-- The head is removed; a pending finding takes the place (R167). -/
def releaseHead (head : QueuedFinding) (rest : List QueuedFinding) (s : State) : Answer :=
  let t : State := { s with findings := rest }
  match s.cursor.pendingFinding with
  | some f => accept (releasePayload head.seq true (t.pushPending f)) (t.pushPending f)
  | none => accept (releasePayload head.seq false t) t

/-- RELEASE FINDING (R167). -/
def releaseFindingBody (seq : Half) (s : State) : Answer :=
  match s.findings with
  | [] => refuse .empty s
  | head :: rest =>
    if seq.toNat = head.seq then releaseHead head rest s
    else refuseWith .mismatch (be 2 head.seq ++ be 1 s.findings.length) s

/-- RELEASE FINDING in the catalogue (R184). -/
def releaseFindingEntry (seq : Half) : Entry :=
  { cls := .station, lengthOk := true, body := releaseFindingBody seq }

/-- The command RELEASE_FINDING. -/
def execReleaseFinding (rq : Requester) (seq : Half) (s : State) : StepOutcome :=
  .next (s.deliver rq (some (releaseFindingEntry seq)) 2)

end Sys2Proof.Machine
end

