-- ==== Sys2Proof/Machine/Plan.lean ====
section
/-!
DEFINITION. The Wiring Plan Table: SET LINK, DROP LINK, GET LINK, CLEAR PLAN, SET CLASS and GET CLASS (R1–R17).
-/

namespace Sys2Proof.Machine

-- ==== SET LINK (R6–R8) ====

/-- The range check of SET LINK (R6). -/
def linkInRange (f : LinkFields) : Bool :=
  f.id.toNat ≤ 511 && f.txSlot.toNat ≤ 23 && f.rxSlot.toNat ≤ 23 && 1 ≤ f.width.toNat && f.width.toNat ≤ 8
    && f.txBase.toNat + f.width.toNat ≤ 32 && f.rxBase.toNat + f.width.toNat ≤ 32 && (classOf f.cls).isSome

/-- The lowest other link whose rx span meets the offered one (R7). -/
def rxConflict (plan : List (Nat × Link)) (id : Nat) (l : Link) : Option Nat :=
  (plan.find? fun p => p.1 != id && spansMeet l.rxStart l.width p.2.rxStart p.2.width).map Prod.fst

/-- The lowest other link whose tx span meets the offered one (R7). -/
def txConflict (plan : List (Nat × Link)) (id : Nat) (l : Link) : Option Nat :=
  (plan.find? fun p => p.1 != id && spansMeet l.txStart l.width p.2.txStart p.2.width).map Prod.fst

/-- The overlap check: the side (RX 0, TX 1) and the lowest conflicting link (R7). -/
def overlap (plan : List (Nat × Link)) (id : Nat) (l : Link) : Option (Nat × Nat) :=
  match rxConflict plan id l with
  | some k => some (0, k)
  | none => (txConflict plan id l).map fun k => (1, k)

/-- The record stored under its id; the verdict of the id set to NOT_EVALUATED (R8). -/
def State.storeLink (id : Nat) (l : Link) (s : State) : State :=
  { s with links := s.links.set id (some l), verdicts := s.verdicts.set id {} }

/-- SET LINK past the lock and the range check: the overlap check and the write (R7, R8). -/
def State.offerLink (id : Nat) (l : Link) (s : State) : Answer :=
  match overlap s.usedLinks id l with
  | some (side, k) => refuseWith .overlap (be 1 side ++ be 2 k) s
  | none => accept [] (s.storeLink id l)

/-- SET LINK (R6). -/
def setLinkBody (f : LinkFields) (s : State) : Answer :=
  if s.seq.sweep.atRest then
    if linkInRange f then
      match classOf f.cls with
      | some k => s.offerLink f.id.toNat (linkOf f k)
      | none => refuse .range s
    else refuse .range s
  else refuse .busy s

/-- SET LINK in the catalogue (R184). -/
def setLinkEntry (f : LinkFields) : Entry := { cls := .station, lengthOk := true, body := setLinkBody f }

/-- The command SET_LINK. -/
def execSetLink (rq : Requester) (f : LinkFields) (s : State) : StepOutcome :=
  .next (s.deliver rq (some (setLinkEntry f)) 10)

-- ==== DROP LINK (R9) ====

/-- The record removed; the verdict of the id set to NOT_EVALUATED (R9). -/
def State.removeLink (id : Nat) (s : State) : State :=
  { s with links := s.links.set id none, verdicts := s.verdicts.set id {} }

/-- DROP LINK (R9). -/
def dropLinkBody (id : Half) (s : State) : Answer :=
  if s.seq.sweep.atRest then
    if id.toNat ≤ 511 then
      match s.links.get id.toNat with
      | some _ => accept [] (s.removeLink id.toNat)
      | none => refuse .empty s
    else refuse .range s
  else refuse .busy s

/-- DROP LINK in the catalogue (R184). -/
def dropLinkEntry (id : Half) : Entry := { cls := .station, lengthOk := true, body := dropLinkBody id }

/-- The command DROP_LINK. -/
def execDropLink (rq : Requester) (id : Half) (s : State) : StepOutcome :=
  .next (s.deliver rq (some (dropLinkEntry id)) 2)

-- ==== GET LINK (R11) ====

/-- GET LINK (R11). -/
def getLinkBody (id : Half) (s : State) : Answer :=
  if id.toNat ≤ 511 then
    match s.links.get id.toNat with
    | some l => accept (l.payload id.toNat) s
    | none => refuse .empty s
  else refuse .range s

/-- GET LINK in the catalogue (R184). -/
def getLinkEntry (id : Half) : Entry := { cls := .station, lengthOk := true, body := getLinkBody id }

/-- The command GET_LINK. -/
def execGetLink (rq : Requester) (id : Half) (s : State) : StepOutcome :=
  .next (s.deliver rq (some (getLinkEntry id)) 2)

-- ==== CLEAR PLAN (R10) ====

/-- Every link record removed and every verdict record set to NOT_EVALUATED (R10, R17). -/
def State.emptyPlan (s : State) : State :=
  { s with links := Table.replicate _ none, verdicts := Table.replicate _ {} }

/-- CLEAR PLAN (R10). -/
def clearPlanBody (s : State) : Answer :=
  if s.seq.sweep.atRest then accept [] s.emptyPlan else refuse .busy s

/-- CLEAR PLAN in the catalogue (R184). -/
def clearPlanEntry : Entry := { cls := .station, lengthOk := true, body := clearPlanBody }

/-- The command CLEAR_PLAN. -/
def execClearPlan (rq : Requester) (s : State) : StepOutcome :=
  .next (s.deliver rq (some clearPlanEntry) 0)

-- ==== SET CLASS (R12) ====

/-- Qreq and band clamped into their ranges (R12). -/
def clampClass (qreq band : Byte) : ClassRecord := { qreq := min qreq.toNat 46, band := min band.toNat 7 }

/-- SET CLASS past the lock and the range check (R12). -/
def State.storeClass (k : LossClass) (qreq band : Byte) (s : State) : Answer :=
  let r := clampClass qreq band
  { state := { s with classes := s.classes.set k r }
    result := if r.qreq = qreq.toNat ∧ r.band = band.toNat then .ok else .clamped
    payload := r.payload k }

/-- SET CLASS (R12). -/
def setClassBody (cls qreq band : Byte) (s : State) : Answer :=
  if s.seq.sweep.atRest then
    match classOf cls with
    | some k => s.storeClass k qreq band
    | none => refuse .range s
  else refuse .busy s

/-- SET CLASS in the catalogue (R184). -/
def setClassEntry (cls qreq band : Byte) : Entry :=
  { cls := .station, lengthOk := true, body := setClassBody cls qreq band }

/-- The command SET_CLASS. -/
def execSetClass (rq : Requester) (cls qreq band : Byte) (s : State) : StepOutcome :=
  .next (s.deliver rq (some (setClassEntry cls qreq band)) 3)

-- ==== GET CLASS (R13) ====

/-- GET CLASS (R13). -/
def getClassBody (cls : Byte) (s : State) : Answer :=
  match classOf cls with
  | some k => accept ((s.classes.get k).payload k) s
  | none => refuse .range s

/-- GET CLASS in the catalogue (R184). -/
def getClassEntry (cls : Byte) : Entry := { cls := .station, lengthOk := true, body := getClassBody cls }

/-- The command GET_CLASS. -/
def execGetClass (rq : Requester) (cls : Byte) (s : State) : StepOutcome :=
  .next (s.deliver rq (some (getClassEntry cls)) 1)

end Sys2Proof.Machine
end

