-- ==== Sys2Proof/Machine/Routing.lean ====
section
/-!
DEFINITION. The request catalogue: from a request code and a payload to the request it names (R184), and from a
request command to the frame that carries it (R176).
-/

namespace Sys2Proof.Machine

/-- An entry whose length must be exactly `n` (R184). -/
def exactly (n : Nat) (p : List Byte) (e : Entry) : Entry := { e with lengthOk := p.length == n && e.lengthOk }

/-- REPORT from its payload bytes: five header bytes, then lane records of 15 bytes. A payload below 5 bytes holds no
record count and fails the length check (R184, R187). -/
def reportFrom (src : SourceId) (p : List Byte) : Entry :=
  { reportEntry src (byteAt p 0) (halfAt p 1) (byteAt p 3) (byteAt p 4)
      (parseRecords (byteAt p 4).toNat (p.drop 5)) with
    lengthOk := 5 ≤ p.length && p.length == 5 + 15 * (byteAt p 4).toNat }

/-- The probe-class requests and STATUS (R184). -/
def probeCatalogue (src : SourceId) (code : Nat) (p : List Byte) : Option Entry :=
  match code with
  | 0x01 => some (exactly 2 p (enrolEntry src (byteAt p 0) (byteAt p 1)))
  | 0x02 => some (exactly 0 p (leaveEntry src))
  | 0x03 => some (exactly 1 p (fetchDrivesEntry src (byteAt p 0)))
  | 0x04 => some (exactly 0 p (readyEntry src))
  | 0x05 => some (reportFrom src p)
  | 0x06 => some (exactly 1 p (holdEntry src (byteAt p 0)))
  | 0x07 => some (exactly 0 p (quietEntry src))
  | 0x10 => some (exactly 0 p (statusEntry src))
  | _ => none

/-- The station-class requests on the plan, the classes and the settings (R184). -/
def planCatalogue (code : Nat) (p : List Byte) : Option Entry :=
  match code with
  | 0x20 => some (exactly 10 p (setLinkEntry (parseLink p)))
  | 0x21 => some (exactly 2 p (dropLinkEntry (halfAt p 0)))
  | 0x22 => some (exactly 2 p (getLinkEntry (halfAt p 0)))
  | 0x23 => some (exactly 0 p clearPlanEntry)
  | 0x24 => some (exactly 3 p (setClassEntry (byteAt p 0) (byteAt p 1) (byteAt p 2)))
  | 0x25 => some (exactly 1 p (getClassEntry (byteAt p 0)))
  | 0x26 => some (exactly 10 p (setTimingEntry (parseTiming p)))
  | 0x27 => some (exactly 0 p getTimingEntry)
  | _ => none

/-- The station-class requests on the sweep, the roster, the tables and the queue (R184). -/
def sweepCatalogue (code : Nat) (p : List Byte) : Option Entry :=
  match code with
  | 0x30 => some (exactly 0 p startEntry)
  | 0x31 => some (exactly 0 p abortEntry)
  | 0x32 => some (exactly 0 p continueEntry)
  | 0x33 => some (exactly 0 p clearHaltEntry)
  | 0x34 => some (exactly 0 p resetCampaignEntry)
  | 0x40 => some (exactly 1 p (getSlotEntry (byteAt p 0)))
  | 0x41 => some (exactly 1 p (releaseSlotEntry (byteAt p 0)))
  | 0x42 => some (exactly 2 p (getObservationEntry (halfAt p 0)))
  | 0x43 => some (exactly 2 p (getHearersEntry (halfAt p 0)))
  | 0x44 => some (exactly 2 p (getVerdictEntry (halfAt p 0)))
  | 0x48 => some (exactly 0 p peekFindingEntry)
  | 0x49 => some (exactly 2 p (releaseFindingEntry (halfAt p 0)))
  | _ => none

/-- The request a code and a payload name, if the code is in the catalogue (R184). -/
def catalogue (src : SourceId) (code : BitVec 7) (p : List Byte) : Option Entry :=
  match probeCatalogue src code.toNat p with
  | some e => some e
  | none =>
    match planCatalogue code.toNat p with
    | some e => some e
    | none => sweepCatalogue code.toNat p

/-- The requester, the request code and the payload of a request command's frame (R176, R184); `none` for a command that
is no request. -/
def requestOf : Instr → Option (Requester × BitVec 7 × List Byte)
  | .unknownRequest rq code payload => some (rq, code, payload)
  | .enrol rq slot lanes => some (rq, 0x01, [slot, lanes])
  | .leave rq => some (rq, 0x02, [])
  | .fetchDrives rq page => some (rq, 0x03, [page])
  | .ready rq => some (rq, 0x04, [])
  | .report rq slot epoch group count records =>
      some (rq, 0x05, [slot] ++ halfBytes epoch ++ [group, count] ++ records.flatMap recordBytes)
  | .hold rq h => some (rq, 0x06, [h])
  | .quiet rq => some (rq, 0x07, [])
  | .status rq => some (rq, 0x10, [])
  | .setLink rq f => some (rq, 0x20, linkBytes f)
  | .dropLink rq id => some (rq, 0x21, halfBytes id)
  | .getLink rq id => some (rq, 0x22, halfBytes id)
  | .clearPlan rq => some (rq, 0x23, [])
  | .setClass rq cls qreq band => some (rq, 0x24, [cls, qreq, band])
  | .getClass rq cls => some (rq, 0x25, [cls])
  | .setTiming rq f => some (rq, 0x26, timingBytes f)
  | .getTiming rq => some (rq, 0x27, [])
  | .start rq => some (rq, 0x30, [])
  | .abort rq => some (rq, 0x31, [])
  | .continueSweep rq => some (rq, 0x32, [])
  | .clearHalt rq => some (rq, 0x33, [])
  | .resetCampaign rq => some (rq, 0x34, [])
  | .getSlot rq slot => some (rq, 0x40, [slot])
  | .releaseSlot rq slot => some (rq, 0x41, [slot])
  | .getObservation rq rx => some (rq, 0x42, halfBytes rx)
  | .getHearers rq tx => some (rq, 0x43, halfBytes tx)
  | .getVerdict rq id => some (rq, 0x44, halfBytes id)
  | .peekFinding rq => some (rq, 0x48, [])
  | .releaseFinding rq seq => some (rq, 0x49, halfBytes seq)
  | .deviceReset => none
  | .transactionStart => none
  | .repeatedStart => none
  | .stop => none
  | .addressByte _ _ => none
  | .writeByte _ _ => none
  | .excessByte _ _ => none
  | .epochTimerExpiry => none
  | .linkEvaluationStep => none
  | .unplannedScanStep => none
  | .replyByte _ => none
  | .resetnRelease _ _ => none

/-- The bytes of a request frame without its check byte: source id, request byte, length, payload (R176). -/
def frameBody (rq : Requester) (code : BitVec 7) (payload : List Byte) : List Byte :=
  rq.source.setWidth 8 :: requestByte rq.check code :: BitVec.ofNat 8 payload.length :: payload

/-- The bytes a master writes for a request after the address byte (R176, R177). -/
def frameBytes (rq : Requester) (code : BitVec 7) (payload : List Byte) : List Byte :=
  if rq.check then frameBody rq code payload ++ [crc8 (frameBody rq code payload)] else frameBody rq code payload

/-- The command UNKNOWN_REQUEST: a frame whose code is not in the catalogue. It is judged like every completed frame
(R181). -/
def execUnknownRequest (rq : Requester) (code : BitVec 7) (payload : List Byte) (s : State) : StepOutcome :=
  .next (s.deliver rq (catalogue rq.source code payload) payload.length)

end Sys2Proof.Machine
end

