-- ==== Sys2Proof/Machine/Bus.lean ====
section
/-!
DEFINITION. The events of the fixture bus as the port takes them: start, repeated start, stop, address bytes, written
bytes and reply bytes (R173–R183).
-/

namespace Sys2Proof.Machine

-- ==== Transaction boundaries (R179) ====

/-- The port waits for an address byte. -/
def State.awaitAddress (s : State) : State := { s with port := { s.port with bus := .address } }

/-- The decoder FREE, the frame so far dropped and the pending reply discarded (R179). -/
def State.freePort (b : BusPhase) (s : State) : State :=
  { s with port := { s.port with decoder := .free, frame := [], reply := none, bus := b } }

/-- The command TRANSACTION_START: the decoder is freed and a reply left from before is discarded (R179). While RESETn is
low the port takes no part (R175). Inside an open transaction, where the spec gives no start, it acts so too and leaves the error
latch as it stands: DESIGN CHOICE, log 11. -/
def execTransactionStart (s : State) : StepOutcome :=
  let s := s.quietLines
  if s.lines.resetN then .next (s.freePort .address) else .next s

/-- The command REPEATED_START. An unfinished frame completes no more, since the next byte is an address; whether it was
left short is judged at that byte (R179, R180). Outside a transaction, where the spec gives no repeated start, the port awaits
an address byte all the same: DESIGN CHOICE, log 11. -/
def execRepeatedStart (s : State) : StepOutcome :=
  let s := s.quietLines
  if s.lines.resetN then .next s.awaitAddress else .next s

/-- The command STOP: the transaction ends and the error latch is cleared (R178, R179). Outside a transaction it acts so too:
DESIGN CHOICE, log 11. -/
def execStop (s : State) : StepOutcome :=
  let s := s.quietLines
  if s.lines.resetN then
    let t := s.freePort .idle
    .next { t with port := { t.port with latch := false } }
  else .next s

-- ==== The error latch (R178) ====

/-- The error latch set: the frame being written is dropped, a pending reply stays held, and the byte is NAKed (R173,
R178). The decoder becomes FREE: DEDUCED where a frame is dropped (log 4), DESIGN CHOICE where none is being written, as in
ENDED with a reply pending (log 12). -/
def State.setLatch (b : BusPhase) (s : State) : State :=
  State.giveAck .nak { s with port := { s.port with latch := true, decoder := .free, frame := [], bus := b } }

-- ==== Address bytes (R174, R179, R180) ====

/-- A reply held as the pending reply and sent from its first byte. -/
def State.holdReply (d : DecoderState) (r : Reply) (s : State) : State :=
  { s with port := { s.port with decoder := d, frame := [], reply := some r, bus := .reading } }

/-- The default read: a sweep-status reply with no check byte (R183). -/
def State.defaultRead (s : State) : Reply := s.reply false .ok s.statusPayload

/-- The check flag of a frame so far: set only when the request byte had been received with its flag set (R180). -/
def frameCheck (frame : List Byte) : Bool := checkFlag (byteAt frame 1)

/-- A frame left short is answered BAD_LENGTH (R180). -/
def State.shortFrame (s : State) : State :=
  s.holdReply .ended (s.reply (frameCheck s.port.frame) .badLength [])

/-- The pending reply is sent again from its first byte, or the default read when there is none (R180). -/
def State.readPending (d : DecoderState) (s : State) : State :=
  match s.port.reply with
  | some r => s.holdReply d { r with position := 0 }
  | none => s.holdReply .free s.defaultRead

/-- A read phase opens (R180). -/
def State.openRead (s : State) : State :=
  match s.port.decoder with
  | .free => s.readPending .free
  | .ended => s.readPending .ended
  | .header => if s.port.frame = [] then s.holdReply .free s.defaultRead else s.shortFrame
  | .payload => s.shortFrame
  | .check => s.shortFrame

/-- A write phase opens: an unfinished frame is dropped untaken and the pending reply is discarded (R179). -/
def State.openWrite (s : State) : State :=
  { s with port := { s.port with decoder := .header, frame := [], reply := none, bus := .writing } }

/-- The 7-bit address of an address byte (R174). -/
def addressOf (b : Byte) : BitVec 7 := b.extractLsb' 1 7

/-- The direction bit of an address byte: 1 is read (R174). -/
def isRead (b : Byte) : Bool := b.getLsbD 0

/-- An address byte with good parity (R174, R178, R179). -/
def State.takeAddress (b : Byte) (s : State) : State :=
  if addressOf b = s.port.target then
    if s.port.latch then State.giveAck .nak { s with port := { s.port with bus := .idle } }
    else if isRead b then s.openRead.giveAck .ack
    else s.openWrite.giveAck .ack
  else s.freePort .idle

/-- The command ADDRESS_BYTE. A byte that no start came before is no address byte, and the port takes no part in it
(log 7). -/
def execAddressByte (data : Byte) (parity : Bool) (s : State) : StepOutcome :=
  let s := s.quietLines
  if s.lines.resetN = true ∧ s.port.bus = .address then
    if goodParity data parity then .next (s.takeAddress data) else .next (s.setLatch .idle)
  else .next s

-- ==== Written bytes (R176, R180) ====

/-- The bytes of the frame so far. -/
def State.keepFrame (d : DecoderState) (frame : List Byte) (s : State) : State :=
  State.giveAck .ack { s with port := { s.port with decoder := d, frame := frame } }

/-- The requester a frame names (R176). -/
def frameRequester (frame : List Byte) : Requester :=
  { source := sourceOf (byteAt frame 0), check := frameCheck frame }

/-- The catalogue's entry for a whole frame (R181, R184). -/
def frameEntry (frame : List Byte) : Option Entry :=
  catalogue (sourceOf (byteAt frame 0)) (requestCode (byteAt frame 1)) (frame.drop 3)

/-- The frame is complete: judged and answered, the last byte ACKed (R176, R181). -/
def State.frameDone (frame : List Byte) (s : State) : State :=
  s.completeFrame (frameRequester frame) (frameEntry frame)

/-- All bytes before the check byte have come: the frame completes, or moves to CHECK when its flag is set (R176). -/
def State.bodyDone (frame : List Byte) (s : State) : State :=
  if frameCheck frame then s.keepFrame .check frame else s.frameDone frame

/-- The length byte (R176): above 128 the frame ends with a pending BAD_LENGTH reply and no request is taken. -/
def State.takeLength (frame : List Byte) (s : State) : State :=
  if (byteAt frame 2).toNat > Config.maxPayload then
    (s.endFrame (frameCheck frame) .badLength []).giveAck .ack
  else if byteAt frame 2 = 0 then s.bodyDone frame
  else s.keepFrame .payload frame

/-- A header byte: source id, request byte, then length (R176). -/
def State.headerByte (frame : List Byte) (s : State) : State :=
  if frame.length < 3 then s.keepFrame .header frame else s.takeLength frame

/-- A payload byte: the last one completes the frame or moves to CHECK (R176). -/
def State.payloadByte (frame : List Byte) (s : State) : State :=
  if frame.length < 3 + (byteAt frame 2).toNat then s.keepFrame .payload frame else s.bodyDone frame

/-- The check byte (R176, R177). -/
def State.checkByte (b : Byte) (s : State) : State :=
  if b = crc8 s.port.frame then s.frameDone s.port.frame else s.setLatch .writing

/-- A byte after a frame has ended: NAKed; a reply that is not BAD_LENGTH is replaced by one whose payload is the result
code the frame had been given (R180). -/
def State.excess (s : State) : State :=
  match s.port.reply with
  | none => s.giveAck .nak
  | some r =>
    if r.result = .badLength then s.giveAck .nak
    else State.giveAck .nak
      { s with port := { s.port with reply := some (s.reply r.check .badLength [r.result.code]) } }

/-- A byte with good parity written to the part, by the decoder's state (R176). -/
def State.takeByte (b : Byte) (s : State) : State :=
  match s.port.decoder with
  | .header => s.headerByte (s.port.frame ++ [b])
  | .payload => s.payloadByte (s.port.frame ++ [b])
  | .check => s.checkByte b
  | .ended => s.excess
  | .free => s.giveAck .nak

/-- A byte written on the bus (R173, R176, R178): while the latch is set it is NAKed; a transaction that is not addressed
to the part for writing is none of its business; bad parity sets the latch. -/
def State.receive (b : Byte) (parity : Bool) (take : State → State) (s : State) : State :=
  if s.lines.resetN then
    if s.port.latch then s.giveAck .nak
    else if s.port.bus = .writing then
      if goodParity b parity then take s else s.setLatch .writing
    else s
  else s

/-- The command WRITE_BYTE (R176). -/
def execWriteByte (data : Byte) (parity : Bool) (s : State) : StepOutcome :=
  .next (s.quietLines.receive data parity (State.takeByte data))

/-- The command EXCESS_BYTE: a byte written after a completed frame (R180). Where no frame has ended the byte is an
ordinary written byte. -/
def execExcessByte (data : Byte) (parity : Bool) (s : State) : StepOutcome :=
  .next (s.quietLines.receive data parity fun t =>
    if t.port.decoder = .ended then t.excess else t.takeByte data)

-- ==== Reply bytes (R173, R182) ====

/-- The byte at the read position, 0xFF past the last byte (R182). -/
def Reply.current (r : Reply) : Byte := r.bytes.getD r.position 0xFF

/-- The read position moves on, up to the end of the reply. -/
def Reply.advance (r : Reply) : Reply := { r with position := min (r.position + 1) r.bytes.length }

/-- A byte with its parity bit on the data line (R173). -/
def State.send (b : Byte) (s : State) : State :=
  { s with lines := { s.lines with sent := some { data := b, parity := parityBit b } } }

/-- A byte of the pending reply is clocked out; the master's NAK ends the part's sending for this read phase (R173,
R182). -/
def State.sendReply (r : Reply) (masterAck : Bool) (s : State) : State :=
  State.send r.current
    { s with port := { s.port with reply := some r.advance, bus := if masterAck then .reading else .readEnded } }

/-- The command REPLY_BYTE. After the master's NAK the data line is released and reads 0xFF (R173, R182). Outside a read
phase the part sends nothing (log 7). -/
def execReplyByte (masterAck : Bool) (s : State) : StepOutcome :=
  let s := s.quietLines
  match s.port.bus with
  | .reading =>
    match s.port.reply with
    | some r => .next (s.sendReply r masterAck)
    | none => .next (s.send 0xFF)
  | .readEnded => .next (s.send 0xFF)
  | .idle => .next s
  | .address => .next s
  | .writing => .next s

end Sys2Proof.Machine
end

