-- ==== Sys2Proof/Machine/Dispatch.lean ====
section
/-! DEFINITION. The dispatch: one arm per command, each one direct call of its meaning. -/

namespace Sys2Proof.Machine

/-- The effect of a command on everything but the queue. -/
def exec (i : Instr) (s : State) : Host.Outcome State Fault Refusal :=
  match i with
  | .deviceReset => Sys2Proof.Machine.execDeviceReset s
  | .transactionStart => Sys2Proof.Machine.execTransactionStart s
  | .repeatedStart => Sys2Proof.Machine.execRepeatedStart s
  | .stop => Sys2Proof.Machine.execStop s
  | .addressByte data parity => Sys2Proof.Machine.execAddressByte data parity s
  | .writeByte data parity => Sys2Proof.Machine.execWriteByte data parity s
  | .excessByte data parity => Sys2Proof.Machine.execExcessByte data parity s
  | .unknownRequest rq code payload => Sys2Proof.Machine.execUnknownRequest rq code payload s
  | .enrol rq slot lanes => Sys2Proof.Machine.execEnrol rq slot lanes s
  | .leave rq => Sys2Proof.Machine.execLeave rq s
  | .fetchDrives rq page => Sys2Proof.Machine.execFetchDrives rq page s
  | .ready rq => Sys2Proof.Machine.execReady rq s
  | .report rq slot epoch group count records => Sys2Proof.Machine.execReport rq slot epoch group count records s
  | .hold rq h => Sys2Proof.Machine.execHold rq h s
  | .quiet rq => Sys2Proof.Machine.execQuiet rq s
  | .status rq => Sys2Proof.Machine.execStatus rq s
  | .setLink rq fields => Sys2Proof.Machine.execSetLink rq fields s
  | .dropLink rq id => Sys2Proof.Machine.execDropLink rq id s
  | .getLink rq id => Sys2Proof.Machine.execGetLink rq id s
  | .clearPlan rq => Sys2Proof.Machine.execClearPlan rq s
  | .setClass rq cls qreq band => Sys2Proof.Machine.execSetClass rq cls qreq band s
  | .getClass rq cls => Sys2Proof.Machine.execGetClass rq cls s
  | .setTiming rq fields => Sys2Proof.Machine.execSetTiming rq fields s
  | .getTiming rq => Sys2Proof.Machine.execGetTiming rq s
  | .start rq => Sys2Proof.Machine.execStart rq s
  | .abort rq => Sys2Proof.Machine.execAbort rq s
  | .continueSweep rq => Sys2Proof.Machine.execContinue rq s
  | .clearHalt rq => Sys2Proof.Machine.execClearHalt rq s
  | .resetCampaign rq => Sys2Proof.Machine.execResetCampaign rq s
  | .getSlot rq slot => Sys2Proof.Machine.execGetSlot rq slot s
  | .releaseSlot rq slot => Sys2Proof.Machine.execReleaseSlot rq slot s
  | .getObservation rq rx => Sys2Proof.Machine.execGetObservation rq rx s
  | .getHearers rq tx => Sys2Proof.Machine.execGetHearers rq tx s
  | .getVerdict rq id => Sys2Proof.Machine.execGetVerdict rq id s
  | .peekFinding rq => Sys2Proof.Machine.execPeekFinding rq s
  | .releaseFinding rq seq => Sys2Proof.Machine.execReleaseFinding rq seq s
  | .epochTimerExpiry => Sys2Proof.Machine.execEpochTimerExpiry s
  | .linkEvaluationStep => Sys2Proof.Machine.execLinkEvaluationStep s
  | .unplannedScanStep => Sys2Proof.Machine.execUnplannedScanStep s
  | .replyByte masterAck => Sys2Proof.Machine.execReplyByte masterAck s
  | .resetnRelease addr1 addr0 => Sys2Proof.Machine.execResetnRelease addr1 addr0 s

end Sys2Proof.Machine
end

