-- ==== Sys2Proof/Safety.lean ====
section
/-!
DEFINITION. What the statements are about: the words they use for a request that is answered, and the laws that the
spec says the part holds in every state it can reach.
-/

namespace Sys2Proof.Machine

-- ==== Requests and replies ====

/-- The port takes request frames: RESETn is high (R175) and the error latch is clear (R178). -/
def State.Listening (s : State) : Prop := s.lines.resetN = true ∧ s.port.latch = false

/-- A state with the answer to a request in it: the frame has ended, the reply is held from its first byte with the phase
code and the epoch number of this state (R176, R182), the last byte is ACKed, and ATTN follows its condition (R170). -/
def State.answered (t : State) (rq : Requester) (r : Result) (payload : List Byte) (pulse : Bool := false) : State :=
  { t with
    port := { t.port with
      decoder := .ended, frame := [], bus := .writing,
      reply := some { result := r, phase := t.seq.sweep.code, epoch := t.seq.epoch, payload := payload,
                      check := rq.check, position := 0 } }
    lines := { t.lines with epochPulse := pulse, ack := .ack, sent := none, attn := t.attnCondition } }

/-- A state with what a bus command shows in it: no pulse on EPOCH, no byte sent, and the acknowledge bit (R173). -/
def State.showing (a : BusAck) (t : State) : State :=
  { t with lines := { t.lines with epochPulse := false, ack := a, sent := none } }

/-- A state with what an event of the part's own shows in it: EPOCH pulsed or not, nothing on the bus, and ATTN following its
condition (R58, R170). -/
def State.driven (pulse : Bool) (t : State) : State :=
  { t with lines := { t.lines with epochPulse := pulse, ack := .none, sent := none, attn := t.attnCondition } }

/-- The state after a completed frame with a request code and a payload has been judged and answered (R181, R182). -/
def State.judged (rq : Requester) (code : BitVec 7) (payload : List Byte) (s : State) : State :=
  let a := judge rq.source (catalogue rq.source code payload) (s.showing .none)
  a.state.answered rq a.result a.payload a.state.lines.epochPulse

/-- A frame of a station reaches the port: it listens, and the source id is station class (R181). -/
def State.FromStation (s : State) (rq : Requester) : Prop := s.Listening ∧ 0x70 ≤ rq.source.toNat

/-- A frame of a probe reaches the port: it listens, and the source id is probe class (R181). -/
def State.FromProbe (s : State) (rq : Requester) : Prop :=
  s.Listening ∧ 0x01 ≤ rq.source.toNat ∧ rq.source.toNat ≤ 0x6F

/-- The byte of a number below 256. -/
def byte (n : Nat) : Byte := BitVec.ofNat 8 n

/-- A number below 65536 in two bytes, most significant first (R184, R189). -/
def twoBytes (n : Nat) : List Byte := [byte (n / 256), byte n]

/-- The plan is open for writing: IDLE, DONE or ABORTED (R5). -/
def State.Open (s : State) : Prop := s.seq.sweep = .idle ∨ s.seq.sweep = .done ∨ s.seq.sweep = .aborted

/-- Every field of a SET LINK is in range (R6). -/
def offerInRange (f : LinkFields) : Prop :=
  f.id.toNat ≤ 511 ∧ f.txSlot.toNat ≤ 23 ∧ f.rxSlot.toNat ≤ 23 ∧ 1 ≤ f.width.toNat ∧ f.width.toNat ≤ 8 ∧
    f.txBase.toNat + f.width.toNat ≤ 32 ∧ f.rxBase.toNat + f.width.toNat ≤ 32 ∧ f.cls.toNat ≤ 3

/-- Some other link has a receive endpoint of the offered link's rx span (R7). -/
def State.SharesRx (s : State) (f : LinkFields) (k : Nat) : Prop :=
  k ≠ f.id.toNat ∧ ∃ l e, s.links.get k = some l ∧ l.coversRx e = true ∧
    f.rxSlot.toNat * 32 + f.rxBase.toNat ≤ e ∧ e < f.rxSlot.toNat * 32 + f.rxBase.toNat + f.width.toNat

/-- Some other link has a transmit endpoint of the offered link's tx span (R7). -/
def State.SharesTx (s : State) (f : LinkFields) (k : Nat) : Prop :=
  k ≠ f.id.toNat ∧ ∃ l e, s.links.get k = some l ∧ l.coversTx e = true ∧
    f.txSlot.toNat * 32 + f.txBase.toNat ≤ e ∧ e < f.txSlot.toNat * 32 + f.txBase.toNat + f.width.toNat

/-- Which source ids may send a request code: the class column of R184 over the classes of R181. -/
def mayAsk (src : SourceId) (code : BitVec 7) : Prop :=
  if code.toNat ≤ 0x07 then 0x01 ≤ src.toNat ∧ src.toNat ≤ 0x6F
  else if code.toNat = 0x10 then 0x01 ≤ src.toNat
  else 0x70 ≤ src.toNat

/-- The payload length of a request code: the length column of R184. A REPORT too short to hold its record count has no length
that fits. -/
def requestLength (code : BitVec 7) (payload : List Byte) : Option Nat :=
  match code.toNat with
  | 0x01 => some 2
  | 0x03 => some 1
  | 0x05 => if 5 ≤ payload.length then some (5 + 15 * (byteAt payload 4).toNat) else none
  | 0x06 => some 1
  | 0x20 => some 10
  | 0x21 => some 2
  | 0x22 => some 2
  | 0x24 => some 3
  | 0x25 => some 1
  | 0x26 => some 10
  | 0x40 => some 1
  | 0x41 => some 1
  | 0x42 => some 2
  | 0x43 => some 2
  | 0x44 => some 2
  | 0x49 => some 2
  | _ => some 0

/-- The events of the fixture bus: what masters do on it, but for the clocking of reply bytes. -/
def busEvent : Instr → Bool
  | .transactionStart => true
  | .repeatedStart => true
  | .stop => true
  | .addressByte _ _ => true
  | .writeByte _ _ => true
  | .excessByte _ _ => true
  | c => (requestOf c).isSome

/-- The state of the part's blocks is untouched: only the port and the lines may differ. -/
def State.SameBlocks (s t : State) : Prop := t = { s with port := t.port, lines := t.lines }

/-- A refusal code (R185). -/
def Result.refusal (r : Result) : Bool := 0x10 ≤ r.code.toNat

/-- Bytes written one after another, each with its parity bit (R173): the state after the last of them. -/
def State.writeAll (s : State) : List Byte → State
  | [] => s
  | b :: l =>
    match exec (.writeByte b (parityBit b)) s with
    | .next t => t.writeAll l
    | .fault _ => s
    | .refused _ => s

/-- The bytes a master reads in `n` reply bytes that it acknowledges, and the state after them (R182). -/
def State.readAll (s : State) : Nat → List (Option SentByte)
  | 0 => []
  | n + 1 =>
    match exec (.replyByte true) s with
    | .next t => t.lines.sent :: t.readAll n
    | .fault _ => []
    | .refused _ => []

-- ==== The Wiring Plan (R1, R14) ====

/-- The fields of a link record are in range (R1). -/
structure Link.InRange (l : Link) : Prop where
  txSlot : l.txSlot ≤ 23
  rxSlot : l.rxSlot ≤ 23
  width  : 1 ≤ l.width ∧ l.width ≤ 8
  txSpan : l.txBase + l.width ≤ 32
  rxSpan : l.rxBase + l.width ≤ 32
  budget : ∀ b, l.budget = some b → b ≤ 255

/-- Every link record is in range, and no two links share a receive endpoint or a transmit endpoint (R14). -/
structure State.PlanOk (s : State) : Prop where
  inRange   : ∀ i l, s.links.get i = some l → l.InRange
  exclusive : ∀ i j k l, i ≠ j → s.links.get i = some k → s.links.get j = some l →
    ∀ e, ¬ (k.coversRx e = true ∧ l.coversRx e = true) ∧ ¬ (k.coversTx e = true ∧ l.coversTx e = true)

/-- An id that holds no link record has the verdict record of NOT_EVALUATED (chapter 1, Unused ids and their verdicts). -/
def State.UnusedOk (s : State) : Prop := ∀ i, s.links.get i = none → s.verdicts.get i = {}

-- ==== The Slot Roster (R18, R19, R25) ====

/-- Participation of a roster state in a sweep state (R19). -/
def RosterState.participates (w : SweepState) : RosterState → Bool
  | .empty => false
  | .enrolled => w == .arming
  | .conflict => false
  | .ready => true
  | .active => true
  | .excluded => true
  | .lost => true

/-- The sweep states in which a roster state exists (R19, R32, R37). -/
def RosterState.exists (w : SweepState) : RosterState → Bool
  | .empty => true
  | .enrolled => true
  | .conflict => true
  | .ready => w == .arming
  | .active => !w.atRest && w != .arming
  | .excluded => !w.atRest && w != .arming
  | .lost => !w.atRest

/-- A slot record as R18 and R19 describe it, in sweep state `w`. -/
structure SlotRecord.Sound (w : SweepState) (r : SlotRecord) : Prop where
  blank         : r.state = .empty → r = {}
  source        : r.state ≠ .empty → ∃ a, r.source = some a ∧ isProbe a = true
  lanes         : r.state ≠ .empty → ∃ n, r.lanes = some n ∧ 1 ≤ n ∧ n ≤ 32
  claimed       : r.claimant.isSome = true ↔ r.state = .conflict
  claimant      : ∀ a, r.claimant = some a → isProbe a = true ∧ r.source ≠ some a
  participating : r.participating = r.state.participates w
  role          : r.state.exists w = true
  missed        : r.missed ≤ 3
  fresh         : w = .arming → r.missed = 0
  active        : r.state = .active → r.missed ≤ 2 ∧ r.activated = true

/-- Every slot record is sound. -/
def State.RosterOk (s : State) : Prop := ∀ i, (s.slots.get i).Sound s.seq.sweep

/-- Each source id appears in at most one roster record, as its probe source id or as its claimant id, and not as both
(R25). -/
structure State.SourcesOk (s : State) : Prop where
  one  : ∀ i j a, (s.slots.get i).holds a = true → (s.slots.get j).holds a = true → i = j
  once : ∀ i a, (s.slots.get i).source = some a → (s.slots.get i).claimant ≠ some a

-- ==== The Tag Unit (R42) ====

/-- The generation is at most 63, and at least 1 whenever the sweep state is not IDLE (R42). -/
def State.GenerationOk (s : State) : Prop := s.generation ≤ 63 ∧ (s.seq.sweep ≠ .idle → 1 ≤ s.generation)

-- ==== The Epoch Sequencer (R55, R56, R59, R81, R83) ====

/-- The settings lie in the ranges of R83. -/
structure Timing.InRange (t : Timing) : Prop where
  period    : 10 ≤ t.period ∧ t.period ≤ 2000
  arming    : 1 ≤ t.arming ∧ t.arming ≤ 255
  window    : 4 ≤ t.window ∧ t.window ≤ 255
  measure   : 1 ≤ t.measure ∧ t.measure ≤ 4096
  allowance : t.allowance ≤ 63

/-- Hold remaining is at most 8, a slot's charge is at most 63, and at most the allowance in any state in which the
allowance is fixed (R81, R83). -/
structure State.HoldOk (s : State) : Prop where
  timing  : s.timing.InRange
  hold    : s.seq.hold ≤ 8
  charge  : ∀ i, (s.slots.get i).holdCharged ≤ 63
  allowed : s.seq.sweep.atRest = false → ∀ i, (s.slots.get i).holdCharged ≤ s.timing.allowance

/-- The quiet call has not started and evaluation has not begun. -/
def Sequencer.Uncalled (q : Sequencer) : Prop :=
  q.quietCall = .notStarted ∧ q.quietDeadline = none ∧ q.evaluation = .notStarted

/-- The boundaries and the epoch number in each sweep state, and the epoch timer as R56 gives it (R55, R57, R59). -/
def State.Phase (s : State) : Prop :=
  match s.seq.sweep with
  | .idle => s.seq = {}
  | .arming =>
    s.seq.timer = .running s.timing.period ∧ s.seq.epoch < s.timing.arming ∧ s.seq.s0 = none ∧ s.seq.m0 = none ∧
      s.seq.reduceStart = none ∧ s.seq.closing = none ∧ s.seq.Uncalled
  | .settle =>
    s.seq.timer = .running s.timing.period ∧ s.seq.m0 = none ∧ s.seq.reduceStart = none ∧ s.seq.closing = none ∧
      s.seq.Uncalled ∧
      ∃ a, s.seq.s0 = some a ∧ 1 ≤ a ∧ a ≤ s.timing.arming ∧ a ≤ s.seq.epoch ∧ s.seq.epoch < a + s.timing.window
  | .measure =>
    s.seq.timer = .running s.timing.period ∧ s.seq.reduceStart = none ∧ s.seq.closing = none ∧ s.seq.Uncalled ∧
      ∃ a b, s.seq.s0 = some a ∧ s.seq.m0 = some b ∧ 1 ≤ a ∧ a ≤ s.timing.arming ∧ a ≤ b ∧ b ≤ a + s.timing.window ∧
        b ≤ s.seq.epoch ∧ s.seq.epoch < b + s.timing.measure
  | .stopped .settle =>
    s.seq.timer = .suspended ∧ s.seq.m0 = none ∧ s.seq.reduceStart = none ∧ s.seq.closing = none ∧ s.seq.Uncalled ∧
      s.seq.s0 = some s.seq.epoch ∧ 1 ≤ s.seq.epoch ∧ s.seq.epoch ≤ s.timing.arming
  | .stopped .measure =>
    s.seq.timer = .suspended ∧ s.seq.reduceStart = none ∧ s.seq.closing = none ∧ s.seq.Uncalled ∧
      s.seq.m0 = some s.seq.epoch ∧
      ∃ a, s.seq.s0 = some a ∧ 1 ≤ a ∧ a ≤ s.timing.arming ∧ a ≤ s.seq.epoch ∧ s.seq.epoch ≤ a + s.timing.window
  | .stopped .reduce =>
    s.seq.timer = .suspended ∧ s.seq.reduceStart = some s.seq.epoch ∧ s.seq.closing = some s.seq.epoch ∧
      s.seq.Uncalled ∧
      ∃ a b, s.seq.s0 = some a ∧ s.seq.m0 = some b ∧ 1 ≤ a ∧ a ≤ s.timing.arming ∧ a ≤ b ∧ b ≤ a + s.timing.window ∧
        s.seq.epoch = b + s.timing.measure
  | .reduce =>
    (s.seq.timer = .running s.timing.period ∨
      (s.seq.timer = .haltedOff ∧ s.seq.epoch = 65535 ∧ s.seq.quietCall = .complete)) ∧
      s.seq.quietCall ≠ .notStarted ∧
      ∃ a b, s.seq.s0 = some a ∧ s.seq.m0 = some b ∧ 1 ≤ a ∧ a ≤ s.timing.arming ∧ a ≤ b ∧ b ≤ a + s.timing.window ∧
        s.seq.reduceStart = some (b + s.timing.measure) ∧ s.seq.closing = some (b + s.timing.measure) ∧
        s.seq.quietDeadline = some (b + s.timing.measure + 4) ∧ b + s.timing.measure ≤ s.seq.epoch ∧
        s.seq.epoch ≤ 65535 ∧ (s.seq.quietCall = .pending → s.seq.epoch < b + s.timing.measure + 4)
  | .aborting =>
    s.seq.timer = .running s.timing.period ∧ s.seq.quietCall = .pending ∧ s.seq.closing.isSome = true ∧
      ∃ d, s.seq.quietDeadline = some d ∧ s.seq.epoch < d ∧
        d ≤ s.timing.arming + s.timing.window + s.timing.measure + 4
  | .halted .aborting =>
    s.seq.timer = .haltedOff ∧ s.seq.quietCall ≠ .notStarted ∧ s.seq.quietDeadline = some s.seq.epoch ∧
      s.seq.epoch ≤ s.timing.arming + s.timing.window + s.timing.measure + 4
  | .halted .reduce =>
    s.seq.timer = .haltedOff ∧ s.seq.quietCall ≠ .notStarted ∧ s.seq.quietDeadline = some s.seq.epoch ∧
      ∃ a b, s.seq.s0 = some a ∧ s.seq.m0 = some b ∧ 1 ≤ a ∧ a ≤ s.timing.arming ∧ a ≤ b ∧ b ≤ a + s.timing.window ∧
        s.seq.reduceStart = some (b + s.timing.measure) ∧ s.seq.closing = some (b + s.timing.measure) ∧
        s.seq.epoch = b + s.timing.measure + 4
  | .done => s.seq.timer = .haltedOff ∧ s.seq.epoch ≤ 65535
  | .aborted => s.seq.timer = .haltedOff ∧ s.seq.epoch ≤ 65535

/-- The sweep states in which some slot will be called quiet. -/
def SweepState.willCall : SweepState → Bool
  | .settle => true
  | .measure => true
  | .stopped _ => true
  | .idle => false
  | .arming => false
  | .reduce => false
  | .aborting => false
  | .halted _ => false
  | .done => false
  | .aborted => false

/-- The sweep stands as the rules of chapter 4 describe it: the boundaries and the timer of its state, hold remaining only
in SETTLE and MEASURE, some slot to call where a call may start, and a pending call that some called slot still owes. -/
structure State.SweepOk (s : State) : Prop where
  timing  : s.timing.InRange
  phase   : s.Phase
  hold    : s.seq.hold ≠ 0 → s.seq.sweep = .settle ∨ s.seq.sweep = .measure
  called  : s.seq.sweep.willCall = true → ∃ i, i < 24 ∧ (s.slots.get i).called = true
  unowed  : s.seq.sweep.atRest = false → s.seq.quietCall = .notStarted → ∀ i, (s.slots.get i).quietOwed = false
  owed    : s.seq.sweep.atRest = false → s.seq.quietCall = .pending → ∀ i, (s.slots.get i).owing = true →
    (s.slots.get i).called = true
  pending : s.seq.sweep.atRest = false → s.seq.quietCall = .pending → ∃ i, i < 24 ∧ (s.slots.get i).owing = true

-- ==== The Observation Table and the Hearing Table (R104, R112, R114, R121) ====

/-- An observation record as R104 describes it: the counters in range, a candidate word exactly while the run is above 0, and
settled exactly with a run of 3 on the settled word (R104, R112, R114). -/
structure Observation.Sound (o : Observation) : Prop where
  run       : o.lockRun ≤ 3
  candidate : o.candidate.isSome = true ↔ 0 < o.lockRun
  settled   : ∀ x, o.settled = some x → o.lockRun = 3 ∧ o.candidate = some x.word ∧ x.heard ≤ 767
  unsettled : o.settled = none → o.lockRun ≤ 2
  dropouts  : o.dropouts ≤ 255
  gaps      : o.gaps ≤ 4095
  units     : o.units ≤ 2 ^ 40 - 1
  errors    : o.errors ≤ 2 ^ 32 - 1
  skew      : -2047 * (o.skewCount : Int) ≤ o.skewSum ∧ o.skewSum ≤ 2047 * (o.skewCount : Int)

/-- Every observation record is sound. -/
def State.EvidenceOk (s : State) : Prop := ∀ e, (s.observations.get e).Sound

/-- Each hearers list holds at most 4 distinct receive endpoints, and every endpoint in it has an observation record
settled DIRECT or INVERTED on that transmit endpoint (R121); overflow comes with a full list (R120). -/
structure State.HearingOk (s : State) : Prop where
  size     : ∀ t, (s.hearing.get t).list.length ≤ 4
  distinct : ∀ t, (s.hearing.get t).list.Nodup
  settled  : ∀ t e, e ∈ (s.hearing.get t).list → e ≤ 767 ∧ (s.observations.get e).hearing = some t
  overflow : ∀ t, (s.hearing.get t).overflow = true → (s.hearing.get t).list.length = 4

-- ==== The Verdict Engine and the Finding Queue (R129, R135, R139, R165) ====

/-- A margin figure present lies in 0..46 and a link skew present in 0..4094 (R129, R135). -/
def FiguresInRange (margin skew : Option Nat) : Prop := (∀ q, margin = some q → q ≤ 46) ∧ ∀ k, skew = some k → k ≤ 4094

/-- The figures of every verdict record, every finding queued and a pending finding are in range. -/
structure State.FiguresOk (s : State) : Prop where
  verdicts : ∀ i, FiguresInRange (s.verdicts.get i).margin (s.verdicts.get i).skew
  findings : ∀ f ∈ s.findings, FiguresInRange f.finding.margin f.finding.skew
  pending  : ∀ f, s.cursor.pendingFinding = some f → FiguresInRange f.margin f.skew

/-- The queue holds at most 64 findings with consecutive numbers up to the next sequence number, and a finding waits
only for a full queue (R156, R164, R165). -/
structure State.QueueOk (s : State) : Prop where
  size        : s.findings.length ≤ 64
  consecutive : ∃ base, s.findings.map QueuedFinding.seq = List.range' base s.findings.length ∧
    base + s.findings.length = s.nextSeq
  waiting     : s.cursor.pendingFinding.isSome = true → s.findings.length = 64

/-- The sequencer's record of evaluation that a stage gives (R139). -/
def Stage.record : Stage → Evaluation
  | .notStarted => .notStarted
  | .links => .running
  | .unplanned => .running
  | .complete => .complete
  | .stopped => .stopped

/-- A working stage (R139). -/
def Stage.working : Stage → Bool
  | .links => true
  | .unplanned => true
  | .notStarted => false
  | .complete => false
  | .stopped => false

/-- The sweep states before REDUCE in a sweep. -/
def SweepState.early : SweepState → Bool
  | .arming => true
  | .settle => true
  | .measure => true
  | .stopped _ => true
  | .idle => false
  | .reduce => false
  | .aborting => false
  | .halted _ => false
  | .done => false
  | .aborted => false

/-- The cursor as R139 and R140 describe it; the pass has not begun before REDUCE, nor in the gathering epoch, and from the
marker after it the pass is under way or complete while the sweep is in REDUCE or is halted from it (R67, R71). -/
structure State.CursorOk (s : State) : Prop where
  follows   : s.seq.evaluation = s.cursor.stage.record
  sweep     : s.cursor.stage.working = true → s.seq.sweep = .reduce ∨ s.seq.sweep = .halted .reduce
  waiting   : s.cursor.pendingFinding.isSome = true → s.cursor.stage.working = true
  links     : s.cursor.stage = .links → ∃ k l, s.cursor.position = some k ∧ k ≤ 511 ∧ s.links.get k = some l
  unplanned : s.cursor.stage = .unplanned → ∃ e, s.cursor.position = some e ∧ e ≤ 767
  idle      : s.cursor.stage = .notStarted ∨ s.cursor.stage = .complete → s.cursor.position = none
  early     : s.seq.sweep.early = true → s.cursor.stage = .notStarted
  gathering : s.seq.sweep = .reduce → s.seq.reduceStart = some s.seq.epoch → s.cursor.stage = .notStarted
  begun     : s.seq.sweep = .halted .reduce ∨ (s.seq.sweep = .reduce ∧ s.seq.reduceStart ≠ some s.seq.epoch) →
    s.cursor.stage ≠ .notStarted ∧ s.cursor.stage ≠ .stopped

/-- While a sweep is on, the planned link of every record agrees with the plan: the link and the lane index whose rx span holds
the endpoint (R105). -/
def State.PlannedOk (s : State) : Prop :=
  s.seq.sweep.atRest = false → ∀ e k i, e < 768 →
    ((s.observations.get e).planned = some { link := k, lane := i } ↔
      ∃ l, s.links.get k = some l ∧ i < l.width ∧ l.rxSlot * 32 + l.rxBase + i = e)

/-- How many link ids below `k` are in use. -/
def State.linksBelow (s : State) (k : Nat) : Nat := (List.range k).countP fun j => (s.links.get j).isSome

/-- How many receive endpoints below `e` have no planned link. -/
def State.unplannedBelow (s : State) (e : Nat) : Nat :=
  (List.range e).countP fun j => (s.observations.get j).planned.isNone

/-- The next sequence number counts at most one finding for each link and each unplanned receive endpoint that the pass has
taken, and does not pass 768, so it never wraps within a sweep (R164). In the second part of the pass a finding waits at an
unplanned endpoint (R154, R156). -/
def State.NumbersOk (s : State) : Prop :=
  match s.cursor.stage with
  | .notStarted => s.nextSeq = 0
  | .links => ∃ k, s.cursor.position = some k ∧ s.nextSeq ≤ s.linksBelow k ∧ s.nextSeq ≤ 768
  | .unplanned => ∃ e, s.cursor.position = some e ∧ s.nextSeq ≤ s.linksBelow 512 + s.unplannedBelow e ∧ s.nextSeq ≤ 768 ∧
      (s.cursor.pendingFinding.isSome = true → (s.observations.get e).planned = none)
  | .complete => s.nextSeq ≤ 768
  | .stopped => s.nextSeq ≤ 768

-- ==== The attention line (R170) ====

/-- ATTN follows its condition (R170). -/
def State.AttnOk (s : State) : Prop := s.lines.attn = s.attnCondition

end Sys2Proof.Machine
end

