-- ==== Sys2Proof/Certificates/Slice0/Obligations.lean ====
section
/-!
DEFINITION. The statements for the provers. Each says what the part does by a rule of the spec; where a clause is the
model's own choice, the docstring names the log entry.
-/

open Sys2Proof Sys2Proof.Machine

-- ==== The queue and the resets ====

/-- The command at the front of the queue is the one a step runs, on the state with the queue's rest. A step on an empty
queue changes nothing: the model's choice, log 1. -/
def Obligations.StepTakesTheFrontCommand : Prop :=
  (∀ (c : Instr) (q : List Instr) (s : State), step (s.withPending (c :: q)) = exec c (s.withPending q)) ∧
  ∀ s : State, s.pending = [] → step s = .next s

/-- Every command answers a next state, and leaves the queue of waiting commands alone. The queue is the model's own (log 1), and
so is the next state that a command gets where the part cannot meet the event it stands for (log 7). -/
def Obligations.EveryCommandGivesANextState : Prop :=
  ∀ (c : Instr) (s : State), ∃ t, exec c s = .next t ∧ t.pending = s.pending

/-- Device reset sets every record of the part, as the reset tables of the chapters give. That the target address is kept
until the reset ends, and that RESETn stays low until RESETN_RELEASE, is the model's choice (log 3); that a RESETn already
high changes nothing is log 7. -/
def Obligations.DeviceResetSetsEveryBlock : Prop :=
  (∀ s : State, exec .deviceReset s = .next
    { pending := s.pending
      links := Table.replicate _ none
      classes := { a := { qreq := 36, band := 2 }, b := { qreq := 33, band := 2 },
                   c := { qreq := 30, band := 2 }, d := { qreq := 27, band := 2 } }
      slots := Table.replicate _
        { state := .empty, source := none, claimant := none, lanes := none, participating := false, pages := 0,
          missed := 0, activated := false, lostByConflict := false, holdCharged := 0, quietOwed := false,
          quietAcked := false }
      windows := Table.replicate _ { groups := 0, lanes := 0 }
      generation := 0
      seq := { sweep := .idle, epoch := 0, s0 := none, m0 := none, reduceStart := none, closing := none,
               timer := .haltedOff, hold := 0, quietCall := .notStarted, quietDeadline := none,
               evaluation := .notStarted, abortCause := .none, haltSlots := 0 }
      timing := { period := 100, arming := 50, window := 32, measure := 100, allowance := 8,
                  stopArming := false, stopSettle := false, stopMeasure := false }
      observations := Table.replicate _
        { planned := none, lockRun := 0, candidate := none, settled := none, lockSeen := false, validSeen := false,
          garbledSeen := false, dropouts := 0, gaps := 0, units := 0, unitsSaturated := false, errors := 0,
          errorsSaturated := false, skewSum := 0, skewCount := 0 }
      hearing := Table.replicate _ { list := [], overflow := false }
      cursor := { stage := .notStarted, position := none, pendingFinding := none }
      verdicts := Table.replicate _
        { verdict := .notEvaluated, worstLane := 0, reason := none, margin := none, skew := none,
          notes := { reversed := false, invertedOk := false, saturated := false } }
      findings := []
      nextSeq := 0
      stateSeen := true
      port := { target := s.port.target, decoder := .free, frame := [], latch := false, reply := none, bus := .idle }
      lines := { resetN := false, attn := false, epochPulse := false, ack := .none, sent := none } }) ∧
  (∀ (s : State) (a1 a0 : Bool), s.lines.resetN = false → exec (.resetnRelease a1 a0) s = .next
    { s with
      port := { s.port with target := BitVec.ofNat 7 (0x5C + 2 * a1.toNat + a0.toNat) }
      lines := { resetN := true, attn := s.lines.attn, epochPulse := false, ack := .none, sent := none } }) ∧
  ∀ (s : State) (a1 a0 : Bool), s.lines.resetN = true →
    exec (.resetnRelease a1 a0) s = .next (s.showing .none)

/-- RESET CAMPAIGN by the sweep state (R79): every block takes its campaign-reset values, and the class table, the settings,
the generation, state-seen and the port are kept. -/
def Obligations.ResetCampaignRestoresEveryBlock : Prop :=
  ∀ (s : State) (rq : Requester), s.FromStation rq →
    (s.Open → exec (.resetCampaign rq) s = .next (State.answered
      { s with
        links := Table.replicate _ none
        slots := Table.replicate _ {}
        windows := Table.replicate _ {}
        seq := { sweep := .idle, epoch := 0, s0 := none, m0 := none, reduceStart := none, closing := none,
                 timer := .haltedOff, hold := 0, quietCall := .notStarted, quietDeadline := none,
                 evaluation := .notStarted, abortCause := .none, haltSlots := 0 }
        observations := Table.replicate _ {}
        hearing := Table.replicate _ {}
        cursor := { stage := .notStarted, position := none, pendingFinding := none }
        verdicts := Table.replicate _ {}
        findings := []
        nextSeq := 0 } rq .ok [])) ∧
    ((s.seq.sweep = .arming ∨ s.seq.sweep = .settle ∨ s.seq.sweep = .measure ∨ (∃ p, s.seq.sweep = .stopped p) ∨
        s.seq.sweep = .reduce ∨ s.seq.sweep = .aborting) →
      exec (.resetCampaign rq) s = .next (s.answered rq .busy [])) ∧
    ((∃ o, s.seq.sweep = .halted o) → exec (.resetCampaign rq) s = .next (s.answered rq .notNow []))

-- ==== The fixture bus ====

/-- While RESETn is low the part answers nothing on the bus; while the error latch is set it NAKs every written byte and every
address byte naming it, and takes no request; a byte with even parity and a check byte that is not the CRC set the latch and drop
the frame. (That a whole request stands for its frame is log 9; that the decoder is FREE after the
drop is log 4, and that it is FREE where no frame was being written is log 12.) -/
def Obligations.DeafOrLatched : Prop :=
  (∀ (s : State) (c : Instr), s.lines.resetN = false → busEvent c = true → exec c s = .next (s.showing .none)) ∧
  (∀ s : State, s.lines.resetN = true → s.port.latch = true →
    (∀ c, (requestOf c).isSome = true → exec c s = .next (s.showing .nak)) ∧
    (∀ d p, exec (.writeByte d p) s = .next (s.showing .nak) ∧ exec (.excessByte d p) s = .next (s.showing .nak)) ∧
    (∀ d, s.port.bus = .address → d.toNat / 2 = s.port.target.toNat → exec (.addressByte d (parityBit d)) s =
      .next (State.showing .nak { s with port := { s.port with bus := .idle } }))) ∧
  (∀ (s : State) (d : Byte) (p : Bool), s.Listening → s.port.bus = .writing → p ≠ parityBit d →
    exec (.writeByte d p) s = .next (State.showing .nak
      { s with port := { s.port with latch := true, decoder := .free, frame := [] } })) ∧
  (∀ (s : State) (d : Byte) (p : Bool), s.lines.resetN = true → s.port.bus = .address → p ≠ parityBit d →
    exec (.addressByte d p) s = .next (State.showing .nak
      { s with port := { s.port with latch := true, decoder := .free, frame := [], bus := .idle } })) ∧
  ∀ (s : State) (d : Byte), s.Listening → s.port.bus = .writing → s.port.decoder = .check → d ≠ crc8 s.port.frame →
    exec (.writeByte d (parityBit d)) s = .next (State.showing .nak
      { s with port := { s.port with latch := true, decoder := .free, frame := [] } })

/-- A start and a stop free the decoder, drop the frame and discard the pending reply; a stop clears the error latch; after a
start or a repeated start an address byte comes next. That a start does so inside an open transaction too, keeping the error
latch, and a repeated start and a stop outside one, is the model's choice (log 11). -/
def Obligations.TransactionBoundaries : Prop :=
  ∀ s : State, s.lines.resetN = true →
    exec .transactionStart s = .next (State.showing .none
      { s with port := { s.port with decoder := .free, frame := [], reply := none, bus := .address } }) ∧
    exec .repeatedStart s = .next (State.showing .none { s with port := { s.port with bus := .address } }) ∧
    exec .stop s = .next (State.showing .none
      { s with port := { s.port with decoder := .free, frame := [], reply := none, latch := false, bus := .idle } })

/-- An address byte with good parity: the part's own address with the write bit opens a frame; another address is none of its
business and frees the port. A byte that no start came before is no address byte: log 7. -/
def Obligations.AddressBytes : Prop :=
  ∀ (s : State) (d : Byte), s.lines.resetN = true →
    (s.port.bus = .address → s.port.latch = false → d.toNat / 2 = s.port.target.toNat → d.toNat % 2 = 0 →
      exec (.addressByte d (parityBit d)) s = .next (State.showing .ack
        { s with port := { s.port with decoder := .header, frame := [], reply := none, bus := .writing } })) ∧
    (s.port.bus = .address → d.toNat / 2 ≠ s.port.target.toNat →
      exec (.addressByte d (parityBit d)) s = .next (State.showing .none
        { s with port := { s.port with decoder := .free, frame := [], reply := none, bus := .idle } })) ∧
    (s.port.bus ≠ .address → ∀ p, exec (.addressByte d p) s = .next (s.showing .none))

/-- The part's address with the read bit opens a read phase, by the decoder's state (R180, R183): the pending reply from its
first byte, the default read, or BAD_LENGTH for a frame left short. -/
def Obligations.ReadPhaseOpens : Prop :=
  ∀ (s : State) (d : Byte), s.Listening → s.port.bus = .address → d.toNat / 2 = s.port.target.toNat → d.toNat % 2 = 1 →
    (∀ r, s.port.decoder = .free ∨ s.port.decoder = .ended → s.port.reply = some r →
      exec (.addressByte d (parityBit d)) s = .next (State.showing .ack
        { s with port := { s.port with frame := [], reply := some { r with position := 0 }, bus := .reading } })) ∧
    ((s.port.decoder = .free ∧ s.port.reply = none) ∨ (s.port.decoder = .header ∧ s.port.frame = []) →
      exec (.addressByte d (parityBit d)) s = .next (State.showing .ack
        { s with port := { s.port with
            decoder := .free, frame := [], bus := .reading,
            reply := some { result := .ok, phase := s.seq.sweep.code, epoch := s.seq.epoch,
                            payload := s.statusPayload, check := false, position := 0 } } })) ∧
    ((s.port.decoder = .header ∧ s.port.frame ≠ []) ∨ s.port.decoder = .payload ∨ s.port.decoder = .check →
      exec (.addressByte d (parityBit d)) s = .next (State.showing .ack
        { s with port := { s.port with
            decoder := .ended, frame := [], bus := .reading,
            reply := some { result := .badLength, phase := s.seq.sweep.code, epoch := s.seq.epoch, payload := [],
                            check := (match s.port.frame with | _ :: b :: _ => b.msb | _ => false),
                            position := 0 } } }))

/-- A byte written with good parity takes the frame decoder on (R176): `x` is the source id byte, `y` the request byte, `n` the
length byte and `p` the payload so far. -/
def Obligations.WrittenBytesFillTheFrame : Prop :=
  ∀ (s : State) (b x y n : Byte) (p : List Byte), s.Listening → s.port.bus = .writing →
    (s.port.decoder = .header → s.port.frame.length < 2 →
      exec (.writeByte b (parityBit b)) s = .next (State.showing .ack
        { s with port := { s.port with frame := s.port.frame ++ [b] } })) ∧
    (s.port.decoder = .header → s.port.frame = [x, y] → 128 < b.toNat →
      exec (.writeByte b (parityBit b)) s = .next (State.showing .ack
        { s with port := { s.port with
            decoder := .ended, frame := [],
            reply := some { result := .badLength, phase := s.seq.sweep.code, epoch := s.seq.epoch, payload := [],
                            check := y.msb, position := 0 } } })) ∧
    (s.port.decoder = .header → s.port.frame = [x, y] → 1 ≤ b.toNat → b.toNat ≤ 128 →
      exec (.writeByte b (parityBit b)) s = .next (State.showing .ack
        { s with port := { s.port with decoder := .payload, frame := [x, y, b] } })) ∧
    (s.port.decoder = .header → s.port.frame = [x, y] → b = 0 → y.msb = true →
      exec (.writeByte b (parityBit b)) s = .next (State.showing .ack
        { s with port := { s.port with decoder := .check, frame := [x, y, b] } })) ∧
    (s.port.decoder = .header → s.port.frame = [x, y] → b = 0 → y.msb = false →
      exec (.writeByte b (parityBit b)) s = .next (s.judged ⟨x.setWidth 7, false⟩ (y.setWidth 7) [])) ∧
    (s.port.decoder = .payload → s.port.frame = [x, y, n] ++ p → p.length + 1 < n.toNat →
      exec (.writeByte b (parityBit b)) s = .next (State.showing .ack
        { s with port := { s.port with frame := [x, y, n] ++ (p ++ [b]) } })) ∧
    (s.port.decoder = .payload → s.port.frame = [x, y, n] ++ p → p.length + 1 = n.toNat → y.msb = true →
      exec (.writeByte b (parityBit b)) s = .next (State.showing .ack
        { s with port := { s.port with decoder := .check, frame := [x, y, n] ++ (p ++ [b]) } })) ∧
    (s.port.decoder = .payload → s.port.frame = [x, y, n] ++ p → p.length + 1 = n.toNat → y.msb = false →
      exec (.writeByte b (parityBit b)) s = .next (s.judged ⟨x.setWidth 7, false⟩ (y.setWidth 7) (p ++ [b]))) ∧
    (s.port.decoder = .check → s.port.frame = [x, y, n] ++ p → y.msb = true → b = crc8 s.port.frame →
      exec (.writeByte b (parityBit b)) s = .next (s.judged ⟨x.setWidth 7, true⟩ (y.setWidth 7) p))

/-- A byte written after a frame has ended is NAKed; a reply that is not BAD_LENGTH is replaced by a BAD_LENGTH reply whose
payload is the result code the frame had been given, and the frame's effect stands (R180). EXCESS_BYTE answers as WRITE_BYTE
does in every state; where no frame has ended, that is the model's choice (log 7). -/
def Obligations.ExcessByteReplacesTheReply : Prop :=
  (∀ (s : State) (d : Byte) (r : Reply), s.Listening → s.port.bus = .writing → s.port.decoder = .ended →
    s.port.reply = some r →
    (r.result ≠ .badLength → exec (.excessByte d (parityBit d)) s = .next (State.showing .nak
      { s with port := { s.port with
          reply := some { result := .badLength, phase := s.seq.sweep.code, epoch := s.seq.epoch,
                          payload := [r.result.code], check := r.check, position := 0 } } })) ∧
    (r.result = .badLength → exec (.excessByte d (parityBit d)) s = .next (s.showing .nak))) ∧
  ∀ (s : State) (d : Byte) (p : Bool), exec (.excessByte d p) s = exec (.writeByte d p) s

/-- A read phase sends the reply byte by byte with odd parity, then 0xFF, and the master's NAK ends it (R182). The reply's bytes
are the result code, the phase code, the epoch, the length, the payload and, when flagged, the check byte over all of them. That
every byte clocked after the master's NAK reads 0xFF with parity bit 1 is the model's reading, log 4. -/
def Obligations.ReadPhaseSendsTheWholeReply : Prop :=
  (∀ (s : State) (r : Reply) (a : Bool), s.port.bus = .reading → s.port.reply = some r →
    exec (.replyByte a) s = .next
      { s with
        port := { s.port with
          reply := some { r with position := min (r.position + 1) r.bytes.length }
          bus := if a then .reading else .readEnded }
        lines := { s.lines with
          epochPulse := false, ack := .none,
          sent := some { data := r.bytes.getD r.position 0xFF,
                         parity := parityBit (r.bytes.getD r.position 0xFF) } } }) ∧
  (∀ (s : State) (a : Bool), s.port.bus = .readEnded →
    exec (.replyByte a) s = .next
      { s with lines := { s.lines with epochPulse := false, ack := .none, sent := some { data := 0xFF, parity := true } } }) ∧
  (∀ r : Reply, ∃ body, body = [r.result.code, r.phase] ++ twoBytes r.epoch ++ [byte r.payload.length] ++ r.payload ∧
    r.bytes = if r.check then body ++ [crc8 body] else body) ∧
  ∀ (s : State) (r : Reply) (n : Nat), s.port.bus = .reading → s.port.reply = some r → r.position = 0 →
    s.readAll (r.bytes.length + n) =
      r.bytes.map (fun b => some { data := b, parity := parityBit b }) ++
        List.replicate n (some { data := 0xFF, parity := true })

/-- The parity bit makes the number of ones odd (R173). The check byte is the remainder of a polynomial division (R177): it is
linear in its bytes, a list followed by its check byte has check byte 0 and no other byte does so, and the worked example of
the chapter holds. -/
def Obligations.ParityAndCheckBytes : Prop :=
  (∀ b : Byte, ((List.range 8).countP (fun i => b.getLsbD i) + (parityBit b).toNat) % 2 = 1) ∧
  (∀ (l : List Byte) (b : Byte), crc8 (l ++ [b]) = 0 ↔ b = crc8 l) ∧
  (∀ l m : List Byte, l.length = m.length → crc8 (List.zipWith (· ^^^ ·) l m) = crc8 l ^^^ crc8 m) ∧
  crc8 [1] = 0x07 ∧ crc8 [0x70, 0x90, 0x00] = 0x86

/-- A request command is its frame: running the command, and writing the bytes of its frame one by one, both end in the same
state, that in which the frame has been judged and answered. A frame with more than 128 payload bytes ends at its length byte
with BAD_LENGTH, and its payload bytes are NAKed, by either way as long as a length byte can name their number. (That a request
command stands for a whole frame is log 9.) -/
def Obligations.RequestCommandIsItsFrame : Prop :=
  ∀ (c : Instr) (rq : Requester) (code : BitVec 7) (p : List Byte) (s tooLong : State),
    requestOf c = some (rq, code, p) → s.Listening →
    tooLong = State.showing .nak
      { s with port := { s.port with
          decoder := .ended, frame := [], bus := .writing,
          reply := some { result := .badLength, phase := s.seq.sweep.code, epoch := s.seq.epoch, payload := [],
                          check := rq.check, position := 0 } } } →
    (p.length ≤ 128 → exec c s = .next (s.judged rq code p)) ∧
    (128 < p.length → exec c s = .next tooLong) ∧
    (s.port.bus = .writing → s.port.decoder = .header → s.port.frame = [] →
      (p.length ≤ 128 → s.writeAll (frameBytes rq code p) = s.judged rq code p) ∧
      (128 < p.length → p.length ≤ 255 → s.writeAll (frameBytes rq code p) = tooLong))

/-- A completed frame is judged by source id, request code, source class and length, in this order, and the first check that
fails gives the reply with no payload (R181). -/
def Obligations.JudgementOrder : Prop :=
  ∀ (s : State) (rq : Requester) (code : BitVec 7) (p : List Byte), s.Listening →
    (rq.source = 0 → s.judged rq code p = s.answered rq .notPermitted []) ∧
    (rq.source ≠ 0 → code ∉ catalogueCodes → s.judged rq code p = s.answered rq .unknown []) ∧
    (rq.source ≠ 0 → code ∈ catalogueCodes → ¬ mayAsk rq.source code →
      s.judged rq code p = s.answered rq .notPermitted []) ∧
    (rq.source ≠ 0 → code ∈ catalogueCodes → mayAsk rq.source code → requestLength code p ≠ some p.length →
      s.judged rq code p = s.answered rq .badLength []) ∧
    (p.length ≤ 128 → exec (.unknownRequest rq code p) s = .next (s.judged rq code p))

/-- Every request is answered, and a reply that carries a refusal code comes with no change of the part's blocks; CONFLICT comes
with a change only when an ENROL makes the named slot CONFLICT (R185). The result codes are those of R185. -/
def Obligations.RefusalsChangeNothing : Prop :=
  (∀ (c : Instr) (s : State), (requestOf c).isSome = true → s.Listening →
    ∃ t r, exec c s = .next t ∧ t.port.reply = some r ∧
      (0x10 ≤ r.result.code.toNat → s.SameBlocks t) ∧
      (r.result = .conflict → s.SameBlocks t ∨
        ∃ rq slot lanes, c = .enrol rq slot lanes ∧ (s.slots.get slot.toNat).state ≠ .conflict ∧
          (t.slots.get slot.toNat).state = .conflict)) ∧
  [Result.ok, .clamped, .restarted, .conflict].map Result.code = [0x00, 0x01, 0x02, 0x03] ∧
  [Result.busy, .notNow, .notPermitted, .notEnrolled, .lost, .range, .overlap, .incomplete, .wrongEpoch, .late, .duplicate,
    .exhausted, .empty, .mismatch, .badLength, .unknown].map Result.code =
    [0x10, 0x11, 0x12, 0x13, 0x14, 0x15, 0x16, 0x17, 0x18, 0x19, 0x1A, 0x1B, 0x1C, 0x1D, 0x1E, 0x1F]

/-- The sixteen station source ids are interchangeable: a request from any of them leads to the same state (R190). -/
def Obligations.StationsAreInterchangeable : Prop :=
  ∀ (s : State) (a b : SourceId) (check : Bool) (code : BitVec 7) (p : List Byte),
    0x70 ≤ a.toNat → 0x70 ≤ b.toNat → s.judged ⟨a, check⟩ code p = s.judged ⟨b, check⟩ code p

-- ==== The Wiring Plan ====

/-- A SET LINK that passes its checks stores the whole record under its id, sets the verdict of that id to NOT_EVALUATED and
leaves everything else; the link count rises by one for an unused id and stays for a used one (R8). -/
def Obligations.SetLinkStoresTheRecord : Prop :=
  ∀ (s : State) (rq : Requester) (f : LinkFields) (k : LossClass), s.FromStation rq → s.PlanOk → s.Open →
    offerInRange f → f.cls.toNat = k.code → (∀ j, ¬ s.SharesRx f j) → (∀ j, ¬ s.SharesTx f j) →
    ∃ t : State, t =
        { s with
          links := s.links.set f.id.toNat (some
            { txSlot := f.txSlot.toNat, txBase := f.txBase.toNat, rxSlot := f.rxSlot.toNat, rxBase := f.rxBase.toNat,
              width := f.width.toNat, lossClass := k, reversal := f.flags.getLsbD 0, polarity := f.flags.getLsbD 1,
              budget := if f.flags.getLsbD 2 then some f.budget.toNat else none })
          verdicts := s.verdicts.set f.id.toNat
            { verdict := .notEvaluated, worstLane := 0, reason := none, margin := none, skew := none,
              notes := { reversed := false, invertedOk := false, saturated := false } } } ∧
      exec (.setLink rq f) s = .next (t.answered rq .ok []) ∧
      t.linkCount = s.linkCount + (if (s.links.get f.id.toNat).isNone then 1 else 0)

/-- A SET LINK is refused BUSY while the plan is locked, then RANGE, then OVERLAP with the side and the lowest conflicting link
of that side, and a refusal changes nothing (R6, R7). -/
def Obligations.SetLinkRefusals : Prop :=
  ∀ (s : State) (rq : Requester) (f : LinkFields), s.FromStation rq →
    (¬ s.Open → exec (.setLink rq f) s = .next (s.answered rq .busy [])) ∧
    (s.Open → ¬ offerInRange f → exec (.setLink rq f) s = .next (s.answered rq .range [])) ∧
    (∀ k, s.PlanOk → s.Open → offerInRange f → s.SharesRx f k → (∀ j, s.SharesRx f j → k ≤ j) →
      exec (.setLink rq f) s = .next (s.answered rq .overlap (0 :: twoBytes k))) ∧
    (∀ k, s.PlanOk → s.Open → offerInRange f → (∀ j, ¬ s.SharesRx f j) → s.SharesTx f k →
      (∀ j, s.SharesTx f j → k ≤ j) → exec (.setLink rq f) s = .next (s.answered rq .overlap (1 :: twoBytes k)))

/-- DROP LINK and CLEAR PLAN remove links, set the verdicts of the ids they free to NOT_EVALUATED and leave everything else
(R9, R10). -/
def Obligations.DropAndClearPlan : Prop :=
  ∀ (s : State) (rq : Requester), s.FromStation rq →
    (∀ id : Half, ¬ s.Open → exec (.dropLink rq id) s = .next (s.answered rq .busy [])) ∧
    (∀ id : Half, s.Open → 511 < id.toNat → exec (.dropLink rq id) s = .next (s.answered rq .range [])) ∧
    (∀ id : Half, s.Open → id.toNat ≤ 511 → s.links.get id.toNat = none →
      exec (.dropLink rq id) s = .next (s.answered rq .empty [])) ∧
    (∀ (id : Half) (l : Link), s.Open → id.toNat ≤ 511 → s.links.get id.toNat = some l →
      ∃ t : State, t = { s with links := s.links.set id.toNat none, verdicts := s.verdicts.set id.toNat {} } ∧
        exec (.dropLink rq id) s = .next (t.answered rq .ok []) ∧ t.linkCount + 1 = s.linkCount) ∧
    (¬ s.Open → exec (.clearPlan rq) s = .next (s.answered rq .busy [])) ∧
    (s.Open →
      ∃ t : State, t = { s with links := Table.replicate _ none, verdicts := Table.replicate _ {} } ∧
        exec (.clearPlan rq) s = .next (t.answered rq .ok []) ∧ t.linkCount = 0)

/-- GET LINK, GET CLASS and GET TIMING answer in every sweep state with the record as stored and change nothing (R11, R13, R84),
in the bytes of R189 as log 6 reads it. -/
def Obligations.PlanReads : Prop :=
  ∀ (s : State) (rq : Requester), s.FromStation rq →
    (∀ id : Half, 511 < id.toNat → exec (.getLink rq id) s = .next (s.answered rq .range [])) ∧
    (∀ id : Half, id.toNat ≤ 511 → s.links.get id.toNat = none →
      exec (.getLink rq id) s = .next (s.answered rq .empty [])) ∧
    (∀ (id : Half) (l : Link), id.toNat ≤ 511 → s.links.get id.toNat = some l →
      exec (.getLink rq id) s = .next (s.answered rq .ok
        (twoBytes id.toNat ++ [byte l.txSlot, byte l.txBase, byte l.rxSlot, byte l.rxBase, byte l.width,
          (match l.lossClass with | .a => 0 | .b => 1 | .c => 2 | .d => 3),
          (if l.reversal then 1 else 0), (if l.polarity then 1 else 0)] ++
          (match l.budget with | none => [0, 0] | some b => [1, byte b])))) ∧
    (∀ cls : Byte, 3 < cls.toNat → exec (.getClass rq cls) s = .next (s.answered rq .range [])) ∧
    exec (.getClass rq 0) s = .next (s.answered rq .ok [0, byte s.classes.a.qreq, byte s.classes.a.band]) ∧
    exec (.getClass rq 1) s = .next (s.answered rq .ok [1, byte s.classes.b.qreq, byte s.classes.b.band]) ∧
    exec (.getClass rq 2) s = .next (s.answered rq .ok [2, byte s.classes.c.qreq, byte s.classes.c.band]) ∧
    exec (.getClass rq 3) s = .next (s.answered rq .ok [3, byte s.classes.d.qreq, byte s.classes.d.band]) ∧
    exec (.getTiming rq) s = .next (s.answered rq .ok
      (twoBytes s.timing.period ++ [byte s.timing.arming, byte s.timing.window] ++ twoBytes s.timing.measure ++
        [byte s.timing.allowance, (if s.timing.stopArming then 1 else 0), (if s.timing.stopSettle then 1 else 0),
          (if s.timing.stopMeasure then 1 else 0)]))

/-- GET SLOT, GET OBSERVATION, GET HEARERS and GET VERDICT answer in every sweep state with the record as it stands and change
nothing; a number outside the table is answered RANGE. The bytes follow R189 as log 6 reads it, and the last clauses write out the
codes and the encodings that the replies are spelled with. -/
def Obligations.TableReads : Prop :=
  ∀ (s : State) (rq : Requester), s.FromStation rq →
    (∀ i : Byte, 23 < i.toNat → exec (.getSlot rq i) s = .next (s.answered rq .range [])) ∧
    (∀ (i : Byte) (r : SlotRecord), i.toNat ≤ 23 → s.slots.get i.toNat = r →
      exec (.getSlot rq i) s = .next (s.answered rq .ok
        ([byte r.state.code] ++ optionalBytes 1 (r.source.map BitVec.toNat) ++ optionalBytes 1 (r.claimant.map BitVec.toNat) ++
          optionalBytes 1 r.lanes ++ yesNo r.participating ++ [byte r.pages.toNat, byte r.missed] ++ yesNo r.activated ++
          yesNo r.lostByConflict ++ [byte r.holdCharged] ++ yesNo r.quietOwed ++ yesNo r.quietAcked ++
          yesNo (r.quietOwed && !r.quietAcked)))) ∧
    (∀ e : Half, 767 < e.toNat → exec (.getObservation rq e) s = .next (s.answered rq .range [])) ∧
    (∀ (e : Half) (o : Observation), e.toNat ≤ 767 → s.observations.get e.toNat = o →
      exec (.getObservation rq e) s = .next (s.answered rq .ok
        ((match o.planned with | none => [0, 0, 0, 0] | some p => [1] ++ twoBytes p.link ++ [byte p.lane]) ++
          [byte o.lockRun] ++ optionalBytes 4 (o.candidate.map BitVec.toNat) ++ yesNo o.settled.isSome ++
          optionalBytes 1 (o.settled.map fun x => x.cls.code) ++ optionalBytes 4 (o.settled.map fun x => x.word.toNat) ++
          optionalBytes 2 (o.settled.map fun x => x.heard) ++ yesNo o.lockSeen ++ yesNo o.validSeen ++ yesNo o.garbledSeen ++
          [byte o.dropouts] ++ twoBytes o.gaps ++ be 5 o.units ++ yesNo o.unitsSaturated ++ be 4 o.errors ++
          yesNo o.errorsSaturated ++ signed o.skewSum ++ twoBytes o.skewCount))) ∧
    (∀ e : Half, 767 < e.toNat → exec (.getHearers rq e) s = .next (s.answered rq .range [])) ∧
    (∀ (e : Half) (h : Hearers), e.toNat ≤ 767 → s.hearing.get e.toNat = h →
      exec (.getHearers rq e) s = .next (s.answered rq .ok
        ([byte h.list.length] ++ twoBytes (h.list.getD 0 0) ++ twoBytes (h.list.getD 1 0) ++ twoBytes (h.list.getD 2 0) ++
          twoBytes (h.list.getD 3 0) ++ yesNo h.overflow))) ∧
    (∀ id : Half, 511 < id.toNat → exec (.getVerdict rq id) s = .next (s.answered rq .range [])) ∧
    (∀ (id : Half) (v : VerdictRecord), id.toNat ≤ 511 → s.verdicts.get id.toNat = v →
      exec (.getVerdict rq id) s = .next (s.answered rq .ok
        ([byte v.verdict.code, byte v.worstLane] ++ optionalBytes 1 (v.reason.map UntestedReason.code) ++ optionalBytes 1 v.margin ++
          optionalBytes 2 v.skew ++
          [byte ((if v.notes.reversed then 1 else 0) + (if v.notes.invertedOk then 2 else 0) +
            (if v.notes.saturated then 4 else 0))]))) ∧
    [RosterState.empty, .enrolled, .conflict, .ready, .active, .excluded, .lost].map RosterState.code =
      [0, 1, 2, 3, 4, 5, 6] ∧
    [SettledClass.direct, .inverted, .stale].map SettledClass.code = [0, 1, 2] ∧
    [Verdict.notEvaluated, .untested, .open, .garbled, .bridged, .misrouted, .order, .stale, .unstable, .polarity, .errors,
      .skew, .unproven, .marginal, .pass, .unplanned].map Verdict.code =
      [0, 1, 2, 3, 4, 5, 6, 7, 8, 9, 10, 11, 12, 13, 14, 15] ∧
    [UntestedReason.noRxProbe, .noTxProbe, .rxLaneAbsent, .txLaneAbsent, .rxLost].map UntestedReason.code =
      [0, 1, 2, 3, 4] ∧
    yesNo true = [1] ∧ yesNo false = [0] ∧
    (∀ n, be 1 n = [byte n] ∧ be 2 n = [byte (n / 2 ^ 8), byte n] ∧
      be 4 n = [byte (n / 2 ^ 24), byte (n / 2 ^ 16), byte (n / 2 ^ 8), byte n] ∧
      be 5 n = [byte (n / 2 ^ 32), byte (n / 2 ^ 24), byte (n / 2 ^ 16), byte (n / 2 ^ 8), byte n]) ∧
    (∀ k, optionalBytes k none = 0 :: List.replicate k 0) ∧ (∀ k n, optionalBytes k (some n) = 1 :: be k n) ∧
    ∀ z : Int, -2 ^ 31 ≤ z → z < 2 ^ 31 → signed z = be 4 (z % 2 ^ 32).toNat

/-- SET CLASS and SET TIMING are taken in IDLE, DONE and ABORTED alone; each value is stored clamped into its range, and the
reply is CLAMPED exactly when some value was (R12, R83), in the widths of R189 as log 6 reads it. -/
def Obligations.SettingsAreClamped : Prop :=
  ∀ (s : State) (rq : Requester), s.FromStation rq →
    (∀ cls q b : Byte, ¬ s.Open → exec (.setClass rq cls q b) s = .next (s.answered rq .busy [])) ∧
    (∀ cls q b : Byte, s.Open → 3 < cls.toNat → exec (.setClass rq cls q b) s = .next (s.answered rq .range [])) ∧
    (∀ (cls q b : Byte) (k : LossClass), s.Open → cls.toNat = k.code →
      exec (.setClass rq cls q b) s = .next (State.answered
        { s with classes := s.classes.set k { qreq := min q.toNat 46, band := min b.toNat 7 } } rq
        (if q.toNat ≤ 46 ∧ b.toNat ≤ 7 then .ok else .clamped) [cls, byte (min q.toNat 46), byte (min b.toNat 7)])) ∧
    (∀ f : TimingFields, ¬ s.Open → exec (.setTiming rq f) s = .next (s.answered rq .busy [])) ∧
    (∀ f : TimingFields, s.Open → ∃ t : Timing, t =
        { period := max 10 (min f.period.toNat 2000), arming := max 1 (min f.arming.toNat 255),
          window := max 4 (min f.window.toNat 255), measure := max 1 (min f.measure.toNat 4096),
          allowance := min f.allowance.toNat 63, stopArming := f.stops.getLsbD 0, stopSettle := f.stops.getLsbD 1,
          stopMeasure := f.stops.getLsbD 2 } ∧
      exec (.setTiming rq f) s = .next (State.answered { s with timing := t } rq
        (if t.period = f.period.toNat ∧ t.arming = f.arming.toNat ∧ t.window = f.window.toNat ∧
            t.measure = f.measure.toNat ∧ t.allowance = f.allowance.toNat then .ok else .clamped)
        (twoBytes t.period ++ [byte t.arming, byte t.window] ++ twoBytes t.measure ++
          [byte t.allowance, (if t.stopArming then 1 else 0), (if t.stopSettle then 1 else 0),
            (if t.stopMeasure then 1 else 0)])))

-- ==== The Slot Roster ====

/-- ENROL is refused RANGE for a slot or a lane count out of range, and CONFLICT with the slot's number for a source that
another slot holds; naming an EMPTY slot it is taken, and the slot participates exactly in ARMING (R20, R21). -/
def Obligations.EnrolTakesAnEmptySlot : Prop :=
  ∀ (s : State) (rq : Requester) (slot lanes : Byte), s.FromProbe rq →
    (23 < slot.toNat ∨ lanes.toNat = 0 ∨ 32 < lanes.toNat →
      exec (.enrol rq slot lanes) s = .next (s.answered rq .range [])) ∧
    (∀ k, s.SourcesOk → slot.toNat ≤ 23 → 1 ≤ lanes.toNat → lanes.toNat ≤ 32 → k ≠ slot.toNat →
      (s.slots.get k).holds rq.source = true →
      exec (.enrol rq slot lanes) s = .next (s.answered rq .conflict [byte k])) ∧
    (slot.toNat ≤ 23 → 1 ≤ lanes.toNat → lanes.toNat ≤ 32 →
      (∀ j, j ≠ slot.toNat → (s.slots.get j).holds rq.source = false) → (s.slots.get slot.toNat).state = .empty →
      exec (.enrol rq slot lanes) s = .next (State.answered
        { s with
          slots := s.slots.set slot.toNat
            { state := .enrolled, source := some rq.source, claimant := none, lanes := some lanes.toNat,
              participating := decide (s.seq.sweep = .arming), pages := 0, missed := 0, activated := false,
              lostByConflict := false, holdCharged := 0, quietOwed := false, quietAcked := false } } rq .ok []))

/-- An ENROL from the slot's own source: an ENROLLED slot takes the new lane count and loses its pages; a slot READY, ACTIVE or
EXCLUDED becomes LOST and keeps all else; LOST and CONFLICT answer so with no change (R22, R23). When the last ACTIVE slot is
lost, the ALL_LOST abort follows where R72 gives one. -/
def Obligations.EnrolFromTheOwnSource : Prop :=
  ∀ (s : State) (rq : Requester) (slot lanes : Byte) (r : SlotRecord) (lost : State), s.FromProbe rq →
    slot.toNat ≤ 23 → 1 ≤ lanes.toNat → lanes.toNat ≤ 32 →
    (∀ j, j ≠ slot.toNat → (s.slots.get j).holds rq.source = false) → s.slots.get slot.toNat = r →
    lost = { s with slots := s.slots.set slot.toNat { r with state := .lost } } →
    (r.source = some rq.source → r.state = .enrolled →
      exec (.enrol rq slot lanes) s = .next (State.answered
        { s with slots := s.slots.set slot.toNat { r with lanes := some lanes.toNat, pages := 0 } } rq .ok [])) ∧
    (r.source = some rq.source → r.state = .ready ∨ r.state = .excluded →
      exec (.enrol rq slot lanes) s = .next (lost.answered rq .restarted [])) ∧
    (r.source = some rq.source → r.state = .active → (lost.activeCount ≠ 0 ∨ lost.seq.sweep.abortsWhenLost = false) →
      exec (.enrol rq slot lanes) s = .next (lost.answered rq .restarted [])) ∧
    (r.source = some rq.source → r.state = .active → lost.activeCount = 0 → lost.seq.sweep.abortsWhenLost = true →
      exec (.enrol rq slot lanes) s = .next ((lost.abortSweep .allLost).answered rq .restarted [])) ∧
    (r.source = some rq.source → r.state = .lost → exec (.enrol rq slot lanes) s = .next (s.answered rq .lost [])) ∧
    (r.source = some rq.source ∨ r.claimant = some rq.source → r.state = .conflict →
      exec (.enrol rq slot lanes) s = .next (s.answered rq .conflict []))

/-- An ENROL from another source puts the slot in CONFLICT with the claimant recorded, out of the sweep, and lost by conflict
when it was ACTIVE or LOST; a third source on a CONFLICT slot changes nothing (R24). -/
def Obligations.EnrolFromAnotherSource : Prop :=
  ∀ (s : State) (rq : Requester) (slot lanes : Byte) (r : SlotRecord) (contested : State), s.FromProbe rq →
    slot.toNat ≤ 23 → 1 ≤ lanes.toNat → lanes.toNat ≤ 32 →
    (∀ j, j ≠ slot.toNat → (s.slots.get j).holds rq.source = false) → s.slots.get slot.toNat = r →
    r.source ≠ some rq.source →
    contested = { s with
      slots := s.slots.set slot.toNat
        { r with state := .conflict, claimant := some rq.source, participating := false,
                 lostByConflict := if r.state = .active ∨ r.state = .lost then true else r.lostByConflict } } →
    (r.state = .enrolled ∨ r.state = .ready ∨ r.state = .excluded ∨ r.state = .lost →
      exec (.enrol rq slot lanes) s = .next (contested.answered rq .conflict [])) ∧
    (r.state = .active → (contested.activeCount ≠ 0 ∨ contested.seq.sweep.abortsWhenLost = false) →
      exec (.enrol rq slot lanes) s = .next (contested.answered rq .conflict [])) ∧
    (r.state = .active → contested.activeCount = 0 → contested.seq.sweep.abortsWhenLost = true →
      exec (.enrol rq slot lanes) s = .next ((contested.abortSweep .allLost).answered rq .conflict [])) ∧
    (r.state = .conflict → exec (.enrol rq slot lanes) s = .next (s.answered rq .conflict []))

/-- LEAVE empties the source's slot when it is ENROLLED (R26). RELEASE SLOT empties a slot unless a sweep holds it (R27). -/
def Obligations.LeaveAndRelease : Prop :=
  ∀ (s : State) (rq : Requester),
    (s.FromProbe rq → (∀ j, (s.slots.get j).holds rq.source = false) →
      exec (.leave rq) s = .next (s.answered rq .notEnrolled [])) ∧
    (∀ slot, s.FromProbe rq → s.SourcesOk → (s.slots.get slot).holds rq.source = true →
      ((s.slots.get slot).state = .conflict → exec (.leave rq) s = .next (s.answered rq .conflict [])) ∧
      ((s.slots.get slot).state = .ready ∨ (s.slots.get slot).state = .active ∨ (s.slots.get slot).state = .excluded ∨
          (s.slots.get slot).state = .lost → exec (.leave rq) s = .next (s.answered rq .busy [])) ∧
      ((s.slots.get slot).state = .enrolled → exec (.leave rq) s = .next (State.answered
        { s with
          slots := s.slots.set slot
            { state := .empty, source := none, claimant := none, lanes := none, participating := false, pages := 0,
              missed := 0, activated := false, lostByConflict := false, holdCharged := 0, quietOwed := false,
              quietAcked := false } } rq .ok []))) ∧
    (∀ i : Byte, s.FromStation rq → 23 < i.toNat → exec (.releaseSlot rq i) s = .next (s.answered rq .range [])) ∧
    (∀ (i : Byte) (r : SlotRecord), s.FromStation rq → i.toNat ≤ 23 → s.slots.get i.toNat = r →
      (r.state = .empty → exec (.releaseSlot rq i) s = .next (s.answered rq .empty [])) ∧
      (r.state ≠ .empty → ¬ s.Open → r.participating = true ∨ (r.state = .conflict ∧ r.lostByConflict = true) →
        exec (.releaseSlot rq i) s = .next (s.answered rq .busy [])) ∧
      (r.state ≠ .empty → s.Open ∨ (r.participating = false ∧ (r.state = .conflict → r.lostByConflict = false)) →
        exec (.releaseSlot rq i) s = .next (State.answered
          { s with
            slots := s.slots.set i.toNat
              { state := .empty, source := none, claimant := none, lanes := none, participating := false, pages := 0,
                missed := 0, activated := false, lostByConflict := false, holdCharged := 0, quietOwed := false,
                quietAcked := false } } rq .ok [])))

/-- FETCH DRIVES judged in its order; a page served is added to pages fetched, and nothing else changes (R30, R47). -/
def Obligations.FetchDrivesServesAPage : Prop :=
  ∀ (s : State) (rq : Requester) (page : Byte), s.FromProbe rq →
    ((∀ j, (s.slots.get j).holds rq.source = false) →
      exec (.fetchDrives rq page) s = .next (s.answered rq .notEnrolled [])) ∧
    (∀ (slot count : Nat) (r : SlotRecord), s.SourcesOk → s.slots.get slot = r → r.holds rq.source = true →
      count = max 1 (((s.plannedTxLanes slot).length + 15) / 16) →
      (r.state = .conflict → exec (.fetchDrives rq page) s = .next (s.answered rq .conflict [])) ∧
      (r.state = .lost → exec (.fetchDrives rq page) s = .next (s.answered rq .lost [])) ∧
      (r.state ≠ .conflict → r.state ≠ .lost → s.seq.sweep ≠ .arming →
        exec (.fetchDrives rq page) s = .next (s.answered rq .notNow [])) ∧
      (r.state ≠ .conflict → r.state ≠ .lost → s.seq.sweep = .arming → count ≤ page.toNat →
        exec (.fetchDrives rq page) s = .next (s.answered rq .range [])) ∧
      (r.state ≠ .conflict → r.state ≠ .lost → s.seq.sweep = .arming → page.toNat < count →
        exec (.fetchDrives rq page) s = .next (State.answered
          { s with slots := s.slots.set slot { r with pages := r.pages ||| BitVec.ofNat 2 (2 ^ page.toNat) } } rq .ok
          (s.drivePage slot page.toNat))))

/-- READY judged in its order (R31). -/
def Obligations.ReadyByItsOrder : Prop :=
  ∀ (s : State) (rq : Requester), s.FromProbe rq →
    ((∀ j, (s.slots.get j).holds rq.source = false) → exec (.ready rq) s = .next (s.answered rq .notEnrolled [])) ∧
    (∀ (slot count : Nat) (r : SlotRecord), s.SourcesOk → s.slots.get slot = r → r.holds rq.source = true →
      count = max 1 (((s.plannedTxLanes slot).length + 15) / 16) →
      (r.state = .conflict → exec (.ready rq) s = .next (s.answered rq .conflict [])) ∧
      (r.state = .lost → exec (.ready rq) s = .next (s.answered rq .lost [])) ∧
      (r.state ≠ .conflict → r.state ≠ .lost → s.seq.sweep ≠ .arming →
        exec (.ready rq) s = .next (s.answered rq .notNow [])) ∧
      (r.state = .ready → s.seq.sweep = .arming → exec (.ready rq) s = .next (s.answered rq .ok [])) ∧
      (r.state ≠ .conflict → r.state ≠ .lost → r.state ≠ .ready → s.seq.sweep = .arming →
        (∃ i, i < count ∧ r.pages.getLsbD i = false) → exec (.ready rq) s = .next (s.answered rq .incomplete [])) ∧
      (r.state ≠ .conflict → r.state ≠ .lost → r.state ≠ .ready → s.seq.sweep = .arming →
        (∀ i, i < count → r.pages.getLsbD i = true) →
        exec (.ready rq) s = .next (State.answered
          { s with slots := s.slots.set slot { r with state := .ready } } rq .ok [])))

-- ==== The Tag Unit ====

/-- The drive list of a slot is its planned transmit lanes in ascending order, each with its tag at the current generation, cut
into pages of 16; a page's bytes are those of R187. -/
def Obligations.DriveListPages : Prop :=
  ∀ (s : State) (slot : Nat),
    (∀ lane, lane ∈ s.plannedTxLanes slot ↔
      lane < 32 ∧ ∃ k l, s.links.get k = some l ∧ l.coversTx (slot * 32 + lane) = true) ∧
    (s.plannedTxLanes slot).Pairwise (· < ·) ∧
    ∀ page (lanes : List Nat), page ≤ 1 → lanes = ((s.plannedTxLanes slot).drop (16 * page)).take 16 →
      s.drivePage slot page =
        [byte s.generation, byte page, (if page + 1 < max 1 (((s.plannedTxLanes slot).length + 15) / 16) then 1 else 0),
          byte ((s.slots.get slot).lanes.getD 0), byte lanes.length] ++
        lanes.flatMap (fun lane => byte lane :: be 4 (tag (slot * 32 + lane) s.generation).toNat) ∧
      (s.drivePage slot page).length ≤ 85

/-- The class of a lane record by its lock flag and the fields of its raw word, read as numbers (R50, R51, R52). -/
def Obligations.ClassificationFollowsTheFields : Prop :=
  ∀ (generation : Nat) (raw : Word) (v g e c : Nat),
    g = v / 2 ^ 22 % 64 → e = v / 2 ^ 12 % 1024 → c = v % 4096 →
    classify generation false raw = .none ∧
    (raw.toNat / 2 ^ 28 ≠ 12 → raw.toNat / 2 ^ 28 ≠ 3 → classify generation true raw = .garbled) ∧
    (raw.toNat / 2 ^ 28 = 12 → v = raw.toNat →
      (767 < e ∨ c ≠ (37 * e + 11 * g + 1445) % 4096 → classify generation true raw = .garbled) ∧
      (e ≤ 767 → c = (37 * e + 11 * g + 1445) % 4096 → g = generation →
        classify generation true raw = .valid .direct e false) ∧
      (e ≤ 767 → c = (37 * e + 11 * g + 1445) % 4096 → g ≠ generation →
        classify generation true raw = .valid .stale e false)) ∧
    (raw.toNat / 2 ^ 28 = 3 → v = 2 ^ 32 - 1 - raw.toNat →
      (767 < e ∨ c ≠ (37 * e + 11 * g + 1445) % 4096 → classify generation true raw = .garbled) ∧
      (e ≤ 767 → c = (37 * e + 11 * g + 1445) % 4096 → g = generation →
        classify generation true raw = .valid .inverted e true) ∧
      (e ≤ 767 → c = (37 * e + 11 * g + 1445) % 4096 → g ≠ generation →
        classify generation true raw = .valid .stale e true))

/-- A tag is the word of its four fields, its complement the word of their complements, and the Tag Unit reads both back
(R43, R44): at its own generation DIRECT and INVERTED, at any other STALE. Tags of different endpoints or generations differ. -/
def Obligations.TagsClassifyAsThemselves : Prop :=
  ∀ (e g c : Nat), e ≤ 767 → 1 ≤ g → g ≤ 63 → c = (37 * e + 11 * g + 1445) % 4096 →
    (tag e g).toNat = 12 * 2 ^ 28 + g * 2 ^ 22 + e * 2 ^ 12 + c ∧
    (~~~ tag e g).toNat = 3 * 2 ^ 28 + (63 - g) * 2 ^ 22 + (1023 - e) * 2 ^ 12 + (4095 - c) ∧
    classify g true (tag e g) = .valid .direct e false ∧
    classify g true (~~~ tag e g) = .valid .inverted e true ∧
    (∀ other, other ≠ g →
      classify other true (tag e g) = .valid .stale e false ∧ classify other true (~~~ tag e g) = .valid .stale e true) ∧
    ∀ e' g', e' ≤ 767 → 1 ≤ g' → g' ≤ 63 → tag e g = tag e' g' → e = e' ∧ g = g'


-- ==== The Epoch Sequencer ====

/-- START by the sweep state (R60); a START taken clears what R61 lists, advances the generation, pulses marker 0 and begins
ARMING. The planned links of the cleared observation records are those of `PlannedLinksAreTheCover`. -/
def Obligations.StartTakenOrRefused : Prop :=
  ∀ (s : State) (rq : Requester), s.FromStation rq →
    ((s.seq.sweep = .arming ∨ s.seq.sweep = .settle ∨ s.seq.sweep = .measure ∨ (∃ p, s.seq.sweep = .stopped p) ∨
        s.seq.sweep = .reduce ∨ s.seq.sweep = .aborting) →
      exec (.start rq) s = .next (s.answered rq .busy [])) ∧
    ((∃ o, s.seq.sweep = .halted o) → exec (.start rq) s = .next (s.answered rq .notNow [])) ∧
    (s.Open → (∀ k, s.links.get k = none) ∨ (∀ i, (s.slots.get i).state ≠ .enrolled) →
      exec (.start rq) s = .next (s.answered rq .empty [])) ∧
    (∀ g k l i, s.Open → s.links.get k = some l → (s.slots.get i).state = .enrolled →
      g = (if s.generation = 63 then 1 else s.generation + 1) →
      exec (.start rq) s = .next (State.answered
        { s with
          generation := g
          observations := plannedObservations s.usedLinks
          hearing := Table.replicate _ {}
          verdicts := Table.replicate _ {}
          findings := []
          nextSeq := 0
          cursor := { stage := .notStarted, position := none, pendingFinding := none }
          slots := s.slots.map fun r =>
            { r with participating := decide (r.state = .enrolled), pages := 0, missed := 0, activated := false,
                     lostByConflict := false, holdCharged := 0, quietOwed := false, quietAcked := false }
          windows := Table.replicate _ {}
          seq := { sweep := .arming, epoch := 0, s0 := none, m0 := none, reduceStart := none, closing := none,
                   timer := .running s.timing.period, hold := 0, quietCall := .notStarted, quietDeadline := none,
                   evaluation := .notStarted, abortCause := .none, haltSlots := 0 } } rq .ok [byte g] true))

/-- START sets the planned link of every record from the plan and clears the rest: the link and the lane index whose rx span holds
the endpoint, absent where no span holds it (R105). The tx lookup of R15 answers in the same way. -/
def Obligations.PlannedLinksAreTheCover : Prop :=
  ∀ (s : State), s.PlanOk → ∀ e k i : Nat,
    (e < 768 → ∃ p, (plannedObservations s.usedLinks).get e =
        { planned := p, lockRun := 0, candidate := none, settled := none, lockSeen := false, validSeen := false,
          garbledSeen := false, dropouts := 0, gaps := 0, units := 0, unitsSaturated := false, errors := 0,
          errorsSaturated := false, skewSum := 0, skewCount := 0 } ∧
      (p = some { link := k, lane := i } ↔
        ∃ l, s.links.get k = some l ∧ i < l.width ∧ l.rxSlot * 32 + l.rxBase + i = e)) ∧
    (coveringTx s.usedLinks e = some { link := k, lane := i } ↔
      ∃ l, s.links.get k = some l ∧ i < l.width ∧ l.txSlot * 32 + l.txBase + i = e)

/-- An abort by the sweep state (R71), with the cause it records; ABORT gives cause STATION. `ended` is the roster at sweep end,
`called` the roster when a quiet call starts, `halted` the part with the pass stopped. -/
def Obligations.AbortByState : Prop :=
  ∀ (s : State) (cause : AbortCause) (ended called : Table SlotRecord 24) (closed : Option Nat),
    ended = s.slots.map (fun r => if r.participating then { r with state := .enrolled, participating := false } else r) →
    called = s.slots.map (fun r =>
      if r.state = .active ∨ r.state = .lost ∨ (r.state = .conflict ∧ r.lostByConflict = true) then
        { r with quietOwed := true, quietAcked := false } else r) →
    closed = some (s.seq.closing.getD s.seq.epoch) →
    (∀ rq, s.FromStation rq →
      (s.Open ∨ (∃ o, s.seq.sweep = .halted o) → exec (.abort rq) s = .next (s.answered rq .notNow [])) ∧
      (s.seq.sweep = .arming ∨ s.seq.sweep = .settle ∨ s.seq.sweep = .measure ∨ (∃ p, s.seq.sweep = .stopped p) ∨
          s.seq.sweep = .reduce ∨ s.seq.sweep = .aborting →
        exec (.abort rq) s = .next ((s.abortSweep .station).answered rq .ok []))) ∧
    (s.seq.sweep = .aborting → s.abortSweep cause = s) ∧
    (s.seq.sweep = .arming → s.abortSweep cause =
      { s with
        seq := { s.seq with sweep := .aborted, timer := .haltedOff, hold := 0, abortCause := cause }
        slots := ended, windows := Table.replicate _ {}, stateSeen := false }) ∧
    (s.seq.sweep = .stopped .settle → s.abortSweep cause =
      { s with
        seq := { s.seq with
          sweep := .aborted, timer := .haltedOff, hold := 0, abortCause := cause, closing := closed }
        slots := ended, windows := Table.replicate _ {}, stateSeen := false }) ∧
    (s.seq.sweep = .settle ∨ s.seq.sweep = .measure → s.abortSweep cause =
      { s with
        seq := { s.seq with
          sweep := .aborting, hold := 0, abortCause := cause, closing := closed, quietCall := .pending,
          quietDeadline := some (s.seq.epoch + 4) }
        slots := called }) ∧
    (s.seq.sweep = .stopped .measure ∨ s.seq.sweep = .stopped .reduce →
      (s.seq.quietCall = .notStarted → s.abortSweep cause =
        { s with
          seq := { s.seq with
            sweep := .aborting, hold := 0, abortCause := cause, closing := closed, timer := .running s.timing.period,
            quietCall := .pending, quietDeadline := some (s.seq.epoch + 4) }
          slots := called }) ∧
      (s.seq.quietCall ≠ .notStarted → s.abortSweep cause =
        { s with
          seq := { s.seq with
            sweep := .aborting, hold := 0, abortCause := cause, closing := closed,
            timer := .running s.timing.period } })) ∧
    (s.seq.sweep = .reduce → ∀ (cursor : Cursor) (evaluation : Evaluation),
      (if s.cursor.stage = .complete ∨ s.cursor.stage = .stopped then
          cursor = s.cursor ∧ evaluation = s.seq.evaluation
        else cursor = { stage := .stopped, position := s.cursor.position, pendingFinding := none } ∧
          evaluation = .stopped) →
      (s.seq.quietCall ≠ .complete → s.abortSweep cause =
        { s with
          seq := { s.seq with sweep := .aborting, hold := 0, abortCause := cause, evaluation := evaluation }
          cursor := cursor }) ∧
      (s.seq.quietCall = .complete → s.abortSweep cause =
        { s with
          seq := { s.seq with
            sweep := .aborted, timer := .haltedOff, hold := 0, abortCause := cause, evaluation := evaluation }
          cursor := cursor, slots := ended, windows := Table.replicate _ {}, stateSeen := false }))

/-- CONTINUE in STOPPED enters the resume phase with a full period, and starts the quiet call for REDUCE (R70). CLEAR HALT in
HALTED acknowledges every owing slot and leads where the halt origin says (R77): with origin REDUCE, to DONE when evaluation is
COMPLETE and back to REDUCE when it is RUNNING. That it leads back to REDUCE also when evaluation is NOT_STARTED or STOPPED, where
R77 has no row, is the model's choice (log 8). Elsewhere both are NOT_NOW. -/
def Obligations.ContinueAndClearHalt : Prop :=
  ∀ (s : State) (rq : Requester) (called acked : Table SlotRecord 24), s.FromStation rq →
    called = s.slots.map (fun r =>
      if r.state = .active ∨ r.state = .lost ∨ (r.state = .conflict ∧ r.lostByConflict = true) then
        { r with quietOwed := true, quietAcked := false } else r) →
    acked = s.slots.map (fun r =>
      if r.quietOwed = true ∧ r.quietAcked = false then { r with quietAcked := true } else r) →
    ((∀ p, s.seq.sweep ≠ .stopped p) → exec (.continueSweep rq) s = .next (s.answered rq .notNow [])) ∧
    (s.seq.sweep = .stopped .settle → exec (.continueSweep rq) s = .next (State.answered
      { s with seq := { s.seq with sweep := .settle, timer := .running s.timing.period } } rq .ok [])) ∧
    (s.seq.sweep = .stopped .measure → exec (.continueSweep rq) s = .next (State.answered
      { s with seq := { s.seq with sweep := .measure, timer := .running s.timing.period } } rq .ok [])) ∧
    (s.seq.sweep = .stopped .reduce → exec (.continueSweep rq) s = .next (State.answered
      { s with
        seq := { s.seq with
          sweep := .reduce, timer := .running s.timing.period, quietCall := .pending,
          quietDeadline := some (s.seq.epoch + 4) }
        slots := called } rq .ok [])) ∧
    ((∀ o, s.seq.sweep ≠ .halted o) → exec (.clearHalt rq) s = .next (s.answered rq .notNow [])) ∧
    (∀ t : SweepState, (s.seq.sweep = .halted .aborting ∧ t = .aborted) ∨
        (s.seq.sweep = .halted .reduce ∧ s.seq.evaluation = .complete ∧ t = .done) →
      exec (.clearHalt rq) s = .next (State.answered
        { s with
          seq := { s.seq with sweep := t, timer := .haltedOff, hold := 0, quietCall := .complete }
          slots := acked.map fun r =>
            if r.participating then { r with state := .enrolled, participating := false } else r
          windows := Table.replicate _ {}, stateSeen := false } rq .ok [])) ∧
    (s.seq.sweep = .halted .reduce → s.seq.evaluation ≠ .complete → exec (.clearHalt rq) s = .next (State.answered
      { s with
        seq := { s.seq with sweep := .reduce, timer := .running s.timing.period, quietCall := .complete }
        slots := acked } rq .ok []))

/-- HOLD judged in its order (R80) and worked by the five steps of R81: `wanted` is the wanted increase, `left` what the slot's
allowance still gives. -/
def Obligations.HoldGrants : Prop :=
  ∀ (s : State) (rq : Requester) (h : Byte), s.FromProbe rq →
    ((∀ j, (s.slots.get j).holds rq.source = false) → exec (.hold rq h) s = .next (s.answered rq .notEnrolled [])) ∧
    ∀ (slot : Nat) (r : SlotRecord), s.SourcesOk → s.slots.get slot = r → r.holds rq.source = true →
      (r.state = .conflict → exec (.hold rq h) s = .next (s.answered rq .conflict [])) ∧
      (r.state = .lost → exec (.hold rq h) s = .next (s.answered rq .lost [])) ∧
      (r.state ≠ .conflict → r.state ≠ .lost →
        (s.seq.sweep ≠ .settle ∧ s.seq.sweep ≠ .measure) ∨ r.state ≠ .active →
        exec (.hold rq h) s = .next (s.answered rq .notNow [])) ∧
      (r.state = .active → s.seq.sweep = .settle ∨ s.seq.sweep = .measure →
        ∀ length wanted left granted : Nat, length = max 1 (min h.toNat 8) → wanted = length - s.seq.hold →
          left = s.timing.allowance - r.holdCharged → granted = min wanted left →
          (0 < wanted → left = 0 → exec (.hold rq h) s = .next (s.answered rq .exhausted
            [0, byte s.seq.hold, byte r.holdCharged])) ∧
          (wanted = 0 ∨ 0 < left → exec (.hold rq h) s = .next (State.answered
            { s with
              seq := { s.seq with hold := s.seq.hold + granted }
              slots := s.slots.set slot { r with holdCharged := r.holdCharged + granted } } rq
            (if length = h.toNat ∧ granted = wanted then .ok else .clamped)
            [byte granted, byte (s.seq.hold + granted), byte (r.holdCharged + granted)])))

/-- STATUS answers the 28 bytes of the sweep status (R188) to both classes; from a station it also sets the state-seen flag, and
it changes nothing else. The default read carries the same bytes. -/
def Obligations.StatusReply : Prop :=
  ∀ (s : State) (rq : Requester) (status : List Byte), s.Listening → rq.source ≠ 0 →
    status =
      [(match s.seq.sweep with
          | .idle => 0 | .arming => 1 | .settle => 2 | .measure => 3 | .stopped _ => 4 | .reduce => 5 | .aborting => 6
          | .halted _ => 7 | .done => 8 | .aborted => 9),
        (match s.seq.sweep with
          | .stopped .settle => 2 | .stopped .measure => 3 | .stopped .reduce => 5 | _ => 0xFF),
        byte s.generation] ++ twoBytes s.seq.epoch ++
      [byte ((if s.seq.s0.isSome then 1 else 0) + (if s.seq.m0.isSome then 2 else 0) +
        (if s.cursor.position.isSome then 4 else 0))] ++
      twoBytes (s.seq.s0.getD 0) ++ twoBytes (s.seq.m0.getD 0) ++
      [byte (s.slots.entries.countP fun r => r.participating),
        byte (s.slots.entries.countP fun r => r.state = .active),
        byte (s.slots.entries.countP fun r => r.state = .lost ∨ (r.state = .conflict ∧ r.lostByConflict = true)),
        byte (s.slots.entries.countP fun r => r.state = .excluded),
        byte s.seq.hold, (match s.seq.quietCall with | .notStarted => 0 | .pending => 1 | .complete => 2),
        byte (s.owingSet.toNat / 65536), byte (s.owingSet.toNat / 256), byte s.owingSet.toNat,
        (match s.seq.abortCause with | .none => 0 | .station => 1 | .noneReady => 2 | .allLost => 3),
        byte (s.seq.haltSlots.toNat / 65536), byte (s.seq.haltSlots.toNat / 256), byte s.seq.haltSlots.toNat,
        byte s.findings.length,
        (match s.cursor.stage with | .notStarted => 0 | .links => 1 | .unplanned => 2 | .complete => 3 | .stopped => 4)] ++
      twoBytes (s.cursor.position.getD 0) ++ [if s.cursor.pendingFinding.isSome then 1 else 0] →
    status.length = 28 ∧ s.statusPayload = status ∧
    (∀ k, k < 24 → s.owingSet.getLsbD k = ((s.slots.get k).quietOwed && !(s.slots.get k).quietAcked)) ∧
    (rq.source.toNat < 0x70 → exec (.status rq) s = .next (s.answered rq .ok status)) ∧
    (0x70 ≤ rq.source.toNat →
      exec (.status rq) s = .next (State.answered { s with stateSeen := true } rq .ok status))

/-- An expiry of the running timer is a reload while a hold remains, else a marker: the epoch number rises by one, EPOCH pulses,
every report window ends empty, and the timer is reloaded, unless the marker enters a state in which R56 gives another timer:
suspended in STOPPED, halted-off in HALTED, DONE and ABORTED. At epoch 65535 the timer stops (R57, R58, R100). A timer that does
not run does not expire: log 7. -/
def Obligations.TimerExpiry : Prop :=
  ∀ s : State,
    (∀ p, s.seq.timer = .running p → 0 < s.seq.hold → exec .epochTimerExpiry s = .next (State.driven false
      { s with seq := { s.seq with hold := s.seq.hold - 1, timer := .running s.timing.period } })) ∧
    (∀ p, s.seq.timer = .running p → s.seq.hold = 0 → s.seq.epoch = 65535 → exec .epochTimerExpiry s =
      .next (State.driven false { s with seq := { s.seq with timer := .haltedOff } })) ∧
    (∀ p, s.seq.timer = .running p → s.seq.hold = 0 → s.seq.epoch ≠ 65535 →
      ∃ t, exec .epochTimerExpiry s = .next t ∧ t.seq.epoch = s.seq.epoch + 1 ∧ t.lines.epochPulse = true ∧
        t.seq.timer = (if t.seq.sweep = s.seq.sweep then .running s.timing.period else
          match t.seq.sweep with
          | .stopped _ => .suspended
          | .halted _ => .haltedOff
          | .done => .haltedOff
          | .aborted => .haltedOff
          | _ => .running s.timing.period) ∧
        (∀ i, t.windows.get i = { groups := 0, lanes := 0 }) ∧ t.lines.attn = t.attnCondition ∧ t.port = s.port ∧
        t.generation = s.generation ∧ t.timing = s.timing ∧ t.links = s.links ∧ t.classes = s.classes ∧
        t.hearing = s.hearing ∧ t.verdicts = s.verdicts ∧ t.findings = s.findings ∧ t.nextSeq = s.nextSeq) ∧
    ((∀ p, s.seq.timer ≠ .running p) → exec .epochTimerExpiry s = .next (s.showing .none))

/-- A marker in ARMING: ARMING ends when no participating slot is still ENROLLED and some slot is READY, or at marker A. READY
slots become ACTIVE and participating ENROLLED ones EXCLUDED; with none READY the sweep is ABORTED, NONE_READY (R62, R63). -/
def Obligations.ArmingEndsAtItsMarker : Prop :=
  ∀ (s p : State) (period : Nat) (allReady someReady : Prop) (armed ended : Table SlotRecord 24),
    s.seq.timer = .running period → s.seq.hold = 0 → s.seq.epoch ≠ 65535 → s.seq.sweep = .arming →
    p = { s with
      seq := { s.seq with epoch := s.seq.epoch + 1, timer := .running s.timing.period }
      windows := Table.replicate _ {} } →
    (allReady ↔ ∀ i, ¬ ((s.slots.get i).state = .enrolled ∧ (s.slots.get i).participating = true)) →
    (someReady ↔ ∃ i, (s.slots.get i).state = .ready) →
    armed = s.slots.map (fun r =>
      if r.state = .ready then { r with state := .active, activated := true }
      else if r.state = .enrolled ∧ r.participating = true then { r with state := .excluded }
      else r) →
    ended = s.slots.map (fun r => if r.participating then { r with state := .enrolled, participating := false } else r) →
    (¬ (allReady ∧ someReady) → p.seq.epoch ≠ s.timing.arming → exec .epochTimerExpiry s = .next (p.driven true)) ∧
    (someReady → allReady ∨ p.seq.epoch = s.timing.arming → s.timing.stopArming = false →
      exec .epochTimerExpiry s = .next (State.driven true
        { p with seq := { p.seq with sweep := .settle, s0 := some p.seq.epoch }, slots := armed })) ∧
    (someReady → allReady ∨ p.seq.epoch = s.timing.arming → s.timing.stopArming = true →
      exec .epochTimerExpiry s = .next (State.driven true
        { p with
          seq := { p.seq with sweep := .stopped .settle, s0 := some p.seq.epoch, timer := .suspended, hold := 0 }
          slots := armed, stateSeen := false })) ∧
    (¬ someReady → p.seq.epoch = s.timing.arming →
      exec .epochTimerExpiry s = .next (State.driven true
        { p with
          seq := { p.seq with sweep := .aborted, abortCause := .noneReady, timer := .haltedOff, hold := 0 }
          slots := ended, stateSeen := false }))

/-- A marker in SETTLE and in MEASURE, on the part `b` as the marker's bookkeeping leaves it: a fall of the ACTIVE count to 0
aborts with ALL_LOST; else SETTLE ends when every endpoint of the settle set is settled or the window is over, and MEASURE at
marker m0 + M (R64, R65, R66, R72). -/
def Obligations.SettleAndMeasureEnd : Prop :=
  ∀ (s b : State) (period : Nat) (fell allSettled : Prop) (called : Table SlotRecord 24),
    s.seq.timer = .running period → s.seq.hold = 0 → s.seq.epoch ≠ 65535 → b = s.pulse.bookkeep.emptyWindows →
    (fell ↔ (∃ i, (s.slots.get i).state = .active) ∧ ∀ i, (b.slots.get i).state ≠ .active) →
    (allSettled ↔ ∀ e, e < 768 → (b.slots.get (e / 32)).state = .active → e % 32 < (b.slots.get (e / 32)).laneCount →
      (b.observations.get e).planned.isSome = true → (b.observations.get e).settled.isSome = true) →
    called = b.slots.map (fun r =>
      if r.state = .active ∨ r.state = .lost ∨ (r.state = .conflict ∧ r.lostByConflict = true) then
        { r with quietOwed := true, quietAcked := false } else r) →
    (s.seq.sweep = .settle ∨ s.seq.sweep = .measure → fell →
      exec .epochTimerExpiry s = .next ((b.abortSweep .allLost).driven true)) ∧
    (s.seq.sweep = .settle → ¬ fell →
      (allSettled ∨ s.seq.s0 = some (b.seq.epoch - s.timing.window) ∧ s.timing.window ≤ b.seq.epoch →
        (s.timing.stopSettle = false → exec .epochTimerExpiry s = .next (State.driven true
          { b with seq := { b.seq with sweep := .measure, m0 := some b.seq.epoch } })) ∧
        (s.timing.stopSettle = true → exec .epochTimerExpiry s = .next (State.driven true
          { b with
            seq := { b.seq with sweep := .stopped .measure, m0 := some b.seq.epoch, timer := .suspended, hold := 0 }
            stateSeen := false }))) ∧
      (¬ allSettled → (∀ a, s.seq.s0 = some a → a + s.timing.window ≠ b.seq.epoch) →
        exec .epochTimerExpiry s = .next (b.driven true))) ∧
    (s.seq.sweep = .measure → ¬ fell →
      (∀ m, s.seq.m0 = some m → m + s.timing.measure = b.seq.epoch →
        (s.timing.stopMeasure = false → exec .epochTimerExpiry s = .next (State.driven true
          { b with
            seq := { b.seq with
              sweep := .reduce, reduceStart := some b.seq.epoch, closing := some b.seq.epoch, hold := 0,
              quietCall := .pending, quietDeadline := some (b.seq.epoch + 4) }
            slots := called })) ∧
        (s.timing.stopMeasure = true → exec .epochTimerExpiry s = .next (State.driven true
          { b with
            seq := { b.seq with
              sweep := .stopped .reduce, reduceStart := some b.seq.epoch, closing := some b.seq.epoch, hold := 0,
              timer := .suspended }
            stateSeen := false }))) ∧
      ((∀ m, s.seq.m0 = some m → m + s.timing.measure ≠ b.seq.epoch) →
        exec .epochTimerExpiry s = .next (b.driven true)))

/-- A marker in REDUCE starts evaluation at marker reduce start + 1, at the lowest link id in use (R67), and in REDUCE and ABORTING
the quiet deadline with a slot still owing leads to HALTED with the owing set recorded (R75). `b` is the part as the marker's
bookkeeping leaves it, `e` the part after the evaluation start. -/
def Obligations.ReduceMarkers : Prop :=
  ∀ (s b e : State) (period : Nat) (origin : HaltOrigin) (late : Prop),
    s.seq.timer = .running period → s.seq.hold = 0 → s.seq.epoch ≠ 65535 → b = s.pulse.bookkeep.emptyWindows →
    ((s.seq.sweep = .reduce ∧ origin = .reduce ∧
        (s.seq.reduceStart = some s.seq.epoch →
          (∀ k, s.links.get k ≠ none → (∀ j, j < k → s.links.get j = none) → e =
            { b with
              seq := { b.seq with evaluation := .running }
              cursor := { b.cursor with stage := .links, position := some k } }) ∧
          ∃ k, s.links.get k ≠ none) ∧
        (s.seq.reduceStart ≠ some s.seq.epoch → e = b)) ∨
      (s.seq.sweep = .aborting ∧ origin = .aborting ∧ e = b)) →
    (late ↔ s.seq.quietCall = .pending ∧ s.seq.quietDeadline = some b.seq.epoch ∧
      ∃ i, i < 24 ∧ (b.slots.get i).quietOwed = true ∧ (b.slots.get i).quietAcked = false) →
    (¬ late → exec .epochTimerExpiry s = .next (e.driven true)) ∧
    (late → exec .epochTimerExpiry s = .next (State.driven true
      { e with
        seq := { e.seq with sweep := .halted origin, timer := .haltedOff, hold := 0, haltSlots := b.owingSet }
        stateSeen := false }))

/-- The bookkeeping of a marker (R98, R99) for epoch n two below its number, and the phase of an epoch (R59): an ACTIVE slot with
every owed group taken has its missed run set to 0, else raised, and at 3 the slot is LOST; for a MEASURE epoch each settled,
unreported lane of an ACTIVE slot is charged a gap. -/
def Obligations.MarkerBookkeeping : Prop :=
  (∀ (q : Sequencer) (n : Nat),
    ((q.s0 = none ∨ ∃ a, q.s0 = some a ∧ n < a) → q.phaseOf n = .arming) ∧
    (∀ a, q.s0 = some a → a ≤ n →
      (∀ c, q.closing = some c → c ≤ n → q.phaseOf n = .afterSweep) ∧
      ((q.closing = none ∨ ∃ c, q.closing = some c ∧ n < c) →
        ((q.m0 = none ∨ ∃ m, q.m0 = some m ∧ n < m) → q.phaseOf n = .settle) ∧
        (∀ m, q.m0 = some m → m ≤ n → q.phaseOf n = .measure)))) ∧
  ∀ (s : State) (n : Nat),
    ((s.seq.epoch < 2 ∨ (s.seq.sweep ≠ .settle ∧ s.seq.sweep ≠ .measure ∧ s.seq.sweep ≠ .reduce ∧
        s.seq.sweep ≠ .aborting)) → s.bookkeep = s) ∧
    (s.seq.epoch = n + 2 → (s.seq.phaseOf n = .arming ∨ s.seq.phaseOf n = .afterSweep) → s.bookkeep = s) ∧
    (s.seq.epoch = n + 2 → (s.seq.phaseOf n = .settle ∨ s.seq.phaseOf n = .measure) →
      (s.seq.sweep = .settle ∨ s.seq.sweep = .measure ∨ s.seq.sweep = .reduce ∨ s.seq.sweep = .aborting) →
      s.bookkeep = { s with slots := s.bookkeep.slots, observations := s.bookkeep.observations } ∧
      (∀ i r, i < 24 → s.slots.get i = r →
        (r.state ≠ .active → s.bookkeep.slots.get i = r) ∧
        (r.state = .active → (∀ g, g < (r.laneCount + 7) / 8 → (s.windows.get i).groups.getLsbD g = true) →
          s.bookkeep.slots.get i = { r with missed := 0 }) ∧
        (r.state = .active → (∃ g, g < (r.laneCount + 7) / 8 ∧ (s.windows.get i).groups.getLsbD g = false) →
          s.bookkeep.slots.get i =
            if r.missed < 2 then { r with missed := r.missed + 1 } else { r with missed := 3, state := .lost })) ∧
      (s.seq.phaseOf n = .settle → s.bookkeep.observations = s.observations) ∧
      (s.seq.phaseOf n = .measure → ∀ e o, e < 768 → s.observations.get e = o →
        s.bookkeep.observations.get e =
          if (s.slots.get (e / 32)).state = .active ∧ e % 32 < (s.slots.get (e / 32)).laneCount ∧
              (s.windows.get (e / 32)).lanes.getLsbD (e % 32) = false ∧ o.settled.isSome = true then
            { o with gaps := min (o.gaps + 1) 4095 }
          else o))

-- ==== Lane reports ====

/-- A REPORT that passes every check of R89 is taken: its group and lanes enter the window, its records are applied one by one
under the phase of their epoch, and the reply names the slot, the epoch, the group, the number of records and the groups taken
(R96). That the groups-taken set is one byte, bit g for group g, is log 5. -/
def Obligations.ReportTaken : Prop :=
  ∀ (s t : State) (rq : Requester) (slot group count : Byte) (epoch : Half) (records : List LaneRecord)
    (w : ReportWindow), s.FromProbe rq → slot.toNat ≤ 23 → (s.slots.get slot.toNat).source = some rq.source →
    (s.slots.get slot.toNat).state = .active →
    (s.seq.sweep = .settle ∨ s.seq.sweep = .measure ∨ (∃ p, s.seq.sweep = .stopped p) ∨
      (s.seq.sweep = .reduce ∧ s.seq.reduceStart = some s.seq.epoch)) →
    epoch.toNat + 1 = s.seq.epoch →
    (s.seq.phaseOf epoch.toNat = .settle ∨ s.seq.phaseOf epoch.toNat = .measure) →
    (s.windows.get slot.toNat).groups.getLsbD group.toNat = false → group.toNat ≤ 3 → 1 ≤ count.toNat →
    count.toNat ≤ 8 → records.length = count.toNat → (records.map LaneRecord.lane).Nodup →
    (∀ r ∈ records, 8 * group.toNat ≤ r.lane.toNat ∧ r.lane.toNat ≤ 8 * group.toNat + 7 ∧
      r.lane.toNat < (s.slots.get slot.toNat).laneCount ∧ r.errors.toNat ≤ 2 ^ 24 - 1 ∧
      -2048 ≤ r.skew.toInt ∧ r.skew.toInt ≤ 2047) →
    (∀ g, w.groups.getLsbD g = ((s.windows.get slot.toNat).groups.getLsbD g || g == group.toNat)) →
    (∀ l, w.lanes.getLsbD l =
      ((s.windows.get slot.toNat).lanes.getLsbD l || records.any fun r => l == r.lane.toNat)) →
    t = records.foldl
      (fun u r => u.applyRecord (s.seq.phaseOf epoch.toNat == .measure) (slot.toNat * 32 + r.lane.toNat) r)
      { s with windows := s.windows.set slot.toNat w } →
    exec (.report rq slot epoch group count records) s = .next (t.answered rq .ok
      ([slot] ++ twoBytes epoch.toNat ++ [group, count, byte w.groups.toNat]))

/-- A REPORT is judged by the checks of R89 in order, with the sweep states of R91; a refused report changes nothing. -/
def Obligations.ReportRefusals : Prop :=
  ∀ (s : State) (rq : Requester) (slot group count : Byte) (epoch : Half) (records : List LaneRecord)
    (owned lost admitted due late taken ranged : Prop), s.FromProbe rq → records.length = count.toNat →
    5 + 15 * records.length ≤ 128 →
    (owned ↔ slot.toNat ≤ 23 ∧ (s.slots.get slot.toNat).source = some rq.source) →
    (lost ↔ (s.slots.get slot.toNat).state = .lost) →
    (admitted ↔ (s.slots.get slot.toNat).state = .active ∧
      (s.seq.sweep = .settle ∨ s.seq.sweep = .measure ∨ (∃ p, s.seq.sweep = .stopped p) ∨
        (s.seq.sweep = .reduce ∧ s.seq.reduceStart = some s.seq.epoch))) →
    (due ↔ epoch.toNat < s.seq.epoch ∧
      (s.seq.phaseOf epoch.toNat = .settle ∨ s.seq.phaseOf epoch.toNat = .measure)) →
    (late ↔ epoch.toNat + 2 ≤ s.seq.epoch) →
    (taken ↔ (s.windows.get slot.toNat).groups.getLsbD group.toNat = true) →
    (ranged ↔ group.toNat ≤ 3 ∧ 1 ≤ count.toNat ∧ count.toNat ≤ 8 ∧ (records.map LaneRecord.lane).Nodup ∧
      ∀ r ∈ records, 8 * group.toNat ≤ r.lane.toNat ∧ r.lane.toNat ≤ 8 * group.toNat + 7 ∧
        r.lane.toNat < (s.slots.get slot.toNat).laneCount ∧ r.errors.toNat ≤ 2 ^ 24 - 1 ∧
        -2048 ≤ r.skew.toInt ∧ r.skew.toInt ≤ 2047) →
    (¬ owned → exec (.report rq slot epoch group count records) s = .next (s.answered rq .notEnrolled [])) ∧
    (owned → lost → exec (.report rq slot epoch group count records) s = .next (s.answered rq .lost [])) ∧
    (owned → ¬ lost → ¬ admitted →
      exec (.report rq slot epoch group count records) s = .next (s.answered rq .notNow [])) ∧
    (owned → admitted → ¬ due →
      exec (.report rq slot epoch group count records) s = .next (s.answered rq .wrongEpoch [])) ∧
    (owned → admitted → due → late →
      exec (.report rq slot epoch group count records) s = .next (s.answered rq .late [])) ∧
    (owned → admitted → due → ¬ late → taken →
      exec (.report rq slot epoch group count records) s = .next (s.answered rq .duplicate [])) ∧
    (owned → admitted → due → ¬ late → ¬ taken → ¬ ranged →
      exec (.report rq slot epoch group count records) s = .next (s.answered rq .range []))

/-- One lane record applied to an unsettled observation record: the seen flags rise, a SETTLE record tracks the run and settles it
at 3, a MEASURE record does no more; a DIRECT or INVERTED settle joins its transmitter's hearers list, or sets overflow on a full
one (R106, R107, R108, R120). -/
def Obligations.LaneRecordsSettle : Prop :=
  ∀ (s : State) (rx : Nat) (r : LaneRecord) (o seen : Observation) (c : Classified), rx < 768 →
    s.observations.get rx = o → o.settled = none → classify s.generation r.lock r.raw = c →
    seen = { o with
      lockSeen := o.lockSeen || r.lock
      validSeen := o.validSeen || (match c with | .valid _ _ _ => true | _ => false)
      garbledSeen := o.garbledSeen || (match c with | .garbled => true | _ => false) } →
    s.applyRecord true rx r = { s with observations := s.observations.set rx seen } ∧
    ((c = .none ∨ c = .garbled) → s.applyRecord false rx r =
      { s with observations := s.observations.set rx { seen with lockRun := 0, candidate := none } }) ∧
    (∀ cls heard inverted, c = .valid cls heard inverted →
      (o.candidate ≠ some r.raw → s.applyRecord false rx r =
        { s with observations := s.observations.set rx { seen with lockRun := 1, candidate := some r.raw } }) ∧
      (o.candidate = some r.raw → o.lockRun ≠ 2 → s.applyRecord false rx r =
        { s with observations := s.observations.set rx { seen with lockRun := o.lockRun + 1 } }) ∧
      (o.candidate = some r.raw → o.lockRun = 2 → ∀ (settled : State), settled =
          { s with observations := s.observations.set rx
                    { seen with lockRun := 3, settled := some { cls := cls, word := r.raw, heard := heard } } } →
        (cls = .stale → s.applyRecord false rx r = settled) ∧
        (cls ≠ .stale → ∀ h, s.hearing.get heard = h →
          s.applyRecord false rx r =
            { settled with
              hearing := s.hearing.set heard
                (if h.list.length < 4 then { h with list := h.list ++ [rx] } else { h with overflow := true }) })))

/-- One lane record applied to a settled observation record: a match in a SETTLE epoch has no effect but the seen flags; a match in
a MEASURE epoch adds units, errors and skew with their saturations; a record that does not match is a dropout (R109, R110). -/
def Obligations.MatchesAccumulate : Prop :=
  ∀ (s : State) (rx : Nat) (r : LaneRecord) (o seen : Observation) (x : Settled) (c : Classified) (m : Bool) (skew : Int),
    rx < 768 → s.observations.get rx = o → o.settled = some x → classify s.generation r.lock r.raw = c →
    skew = (if r.skew.toNat % 4096 < 2048 then (r.skew.toNat % 4096 : Int) else (r.skew.toNat % 4096 : Int) - 4096) →
    seen = { o with
      lockSeen := o.lockSeen || r.lock
      validSeen := o.validSeen || (match c with | .valid _ _ _ => true | _ => false)
      garbledSeen := o.garbledSeen || (match c with | .garbled => true | _ => false) } →
    (¬ (r.lock = true ∧ r.raw = x.word) → s.applyRecord m rx r =
      { s with observations := s.observations.set rx { seen with dropouts := min (o.dropouts + 1) 255 } }) ∧
    (r.lock = true → r.raw = x.word → s.applyRecord false rx r =
      { s with observations := s.observations.set rx seen }) ∧
    (r.lock = true → r.raw = x.word → s.applyRecord true rx r =
      { s with
        observations := s.observations.set rx
          { seen with
            units := min (o.units + r.units.toNat) (2 ^ 40 - 1)
            unitsSaturated := o.unitsSaturated || decide (2 ^ 40 - 1 < o.units + r.units.toNat)
            errors := min (o.errors + r.errors.toNat) (2 ^ 32 - 1)
            errorsSaturated :=
              o.errorsSaturated || decide (r.errors.toNat = 2 ^ 24 - 1) ||
                decide (2 ^ 32 - 1 < o.errors + r.errors.toNat)
            skewSum := if skew = -2048 then o.skewSum else o.skewSum + skew
            skewCount := if skew = -2048 then o.skewCount else o.skewCount + 1 } })

/-- QUIET is always answered OK; it acknowledges the pending call for the slot whose probe source id the source is, if that slot
still owes, and the last acknowledgement completes the call with what R74 gives (R102). -/
def Obligations.QuietAnswers : Prop :=
  ∀ (s : State) (rq : Requester) (call : Byte), s.FromProbe rq →
    call = (match s.seq.quietCall with | .notStarted => 0 | .pending => 1 | .complete => 2) →
    ((∀ j, (s.slots.get j).source ≠ some rq.source) → exec (.quiet rq) s = .next (s.answered rq .ok [0, call])) ∧
    ∀ (slot : Nat) (r : SlotRecord) (acked : State) (last : Prop), s.SourcesOk → s.slots.get slot = r →
      r.source = some rq.source →
      acked = { s with slots := s.slots.set slot { r with quietAcked := true } } →
      (last ↔ ∀ i, i < 24 → ¬ ((acked.slots.get i).quietOwed = true ∧ (acked.slots.get i).quietAcked = false)) →
      (s.seq.quietCall ≠ .pending ∨ r.quietOwed = false ∨ r.quietAcked = true →
        exec (.quiet rq) s = .next (s.answered rq .ok [0, call])) ∧
      (s.seq.quietCall = .pending → r.quietOwed = true → r.quietAcked = false → ¬ last →
        exec (.quiet rq) s = .next (acked.answered rq .ok [1, 1])) ∧
      (s.seq.quietCall = .pending → r.quietOwed = true → r.quietAcked = false → last →
        (∀ t : SweepState, (s.seq.sweep = .aborting ∧ t = .aborted) ∨
            (s.seq.sweep = .reduce ∧ s.seq.evaluation = .complete ∧ t = .done) →
          exec (.quiet rq) s = .next (State.answered
            { acked with
              seq := { s.seq with sweep := t, timer := .haltedOff, hold := 0, quietCall := .complete }
              slots := acked.slots.map fun r =>
                if r.participating then { r with state := .enrolled, participating := false } else r
              windows := Table.replicate _ {}, stateSeen := false } rq .ok [1, 2])) ∧
        (s.seq.sweep ≠ .aborting → ¬ (s.seq.sweep = .reduce ∧ s.seq.evaluation = .complete) →
          exec (.quiet rq) s = .next (State.answered
            { acked with seq := { s.seq with quietCall := .complete } } rq .ok [1, 2])))


-- ==== Margin, skew and verdicts ====

/-- The margin figure is the largest q with (E + 3) × 2^q at most C, and 0 when there is none (R127); the lane outcome by margin
(R130); the average skew is the quotient rounded toward minus infinity (R133); the link's figure is the least among its lanes with
compared units, its skew the spread of its sampled averages, and SKEW a skew above the budget (R132, R134, R136). -/
def Obligations.MarginAndSkewArithmetic : Prop :=
  (∀ c e q, marginFigure c e = q →
    (c < e + 3 → q = 0) ∧ (e + 3 ≤ c → (e + 3) * 2 ^ q ≤ c ∧ c < (e + 3) * 2 ^ (q + 1))) ∧
  (∀ o : Observation, o.figure = marginFigure (o.units * 256) o.errors ∧ (o.units ≤ 2 ^ 40 - 1 → o.figure ≤ 46)) ∧
  (∀ (q e : Nat) (k : ClassRecord),
    (k.qreq ≤ q → outcomeByMargin q e k = .pass) ∧
    (e = 0 → q < k.qreq → outcomeByMargin q e k = .unproven) ∧
    (0 < e → k.qreq - k.band ≤ q → q < k.qreq → outcomeByMargin q e k = .marginal) ∧
    (0 < e → q < k.qreq - k.band → outcomeByMargin q e k = .errors)) ∧
  (∀ o : Observation, (o.skewCount = 0 → o.average = none) ∧
    (0 < o.skewCount → ∃ a, o.average = some a ∧ a * o.skewCount ≤ o.skewSum ∧ o.skewSum < (a + 1) * o.skewCount)) ∧
  (∀ (lanes : List Observation) (q : Nat),
    (linkMargin lanes = none ↔ ∀ o ∈ lanes, o.units = 0) ∧
    (linkMargin lanes = some q ↔ (∃ o ∈ lanes, 0 < o.units ∧ o.figure = q) ∧
      ∀ o ∈ lanes, 0 < o.units → q ≤ o.figure)) ∧
  (∀ (lanes : List Observation) (averages : List Int) (k : Nat), averages = lanes.filterMap Observation.average →
    (linkSkew lanes = none ↔ averages.length < 2) ∧
    (linkSkew lanes = some k ↔ 2 ≤ averages.length ∧
      ∃ a ∈ averages, ∃ b ∈ averages, (∀ z ∈ averages, b ≤ z ∧ z ≤ a) ∧ (k : Int) = a - b)) ∧
  ∀ budget skew : Option Nat, skewExceeded budget skew = true ↔ ∃ b k, budget = some b ∧ skew = some k ∧ b < k

/-- The lane checks in their order, each tried when those before it do not hold: the untested reasons (R144), the unsettled and
STALE lanes (R145), ORDER and MISROUTED (R146), BRIDGED (R147), UNSTABLE and POLARITY (R148) and the error stage (R149), against
the expected endpoint of R142 and R143. A lane judged before the error stage is `early`: it writes no INVERTED_OK (R148) and its
figure is not judged; a lane that reaches the error stage writes INVERTED_OK when it is INVERTED, and its figure is (R131). -/
def Obligations.LaneChecks : Prop :=
  ∀ (s : State) (l : Link) (i expected : Nat) (rx tx : SlotRecord) (o : Observation) (h : Hearers) (seen early : Prop)
    (j : LaneJudgement), i < l.width → s.slots.get l.rxSlot = rx → s.slots.get l.txSlot = tx →
    s.observations.get (l.rxSlot * 32 + l.rxBase + i) = o →
    (seen ↔ 2 ≤ l.width ∧ ∀ n, n < l.width → ∃ x,
      (s.observations.get (l.rxSlot * 32 + l.rxBase + n)).settled = some x ∧ x.cls ≠ .stale ∧
      x.heard = l.txSlot * 32 + l.txBase + (l.width - 1 - n)) →
    (seen → l.reversal = true → expected = l.txSlot * 32 + l.txBase + (l.width - 1 - i)) →
    (¬ seen ∨ l.reversal = false → expected = l.txSlot * 32 + l.txBase + i) →
    s.hearing.get expected = h → s.judgeLane l i = j →
    (early ↔ j.invertedOk = false ∧ j.judged = false) →
    (rx.state ≠ .active → rx.isLost = false → j.outcome = .untested ∧ j.reason = some .noRxProbe ∧ early) ∧
    (rx.isLost = true → j.outcome = .untested ∧ j.reason = some .rxLost ∧ early) ∧
    (rx.state = .active → rx.laneCount ≤ l.rxBase + i → j.outcome = .untested ∧ j.reason = some .rxLaneAbsent ∧ early) ∧
    (rx.state = .active → l.rxBase + i < rx.laneCount → tx.activated = false →
      j.outcome = .untested ∧ j.reason = some .noTxProbe ∧ early) ∧
    (rx.state = .active → l.rxBase + i < rx.laneCount → tx.activated = true → tx.laneCount ≤ expected % 32 →
      j.outcome = .untested ∧ j.reason = some .txLaneAbsent ∧ early) ∧
    (rx.state = .active → l.rxBase + i < rx.laneCount → tx.activated = true → expected % 32 < tx.laneCount →
      j.reason = none ∧
      (o.settled = none → o.lockSeen = false → j.outcome = .open ∧ early) ∧
      (o.settled = none → o.lockSeen = true → o.validSeen = false → j.outcome = .garbled ∧ early) ∧
      (o.settled = none → o.lockSeen = true → o.validSeen = true → j.outcome = .unstable ∧ early) ∧
      ∀ x, o.settled = some x →
        (x.cls = .stale → j.outcome = .stale ∧ early) ∧
        (x.cls ≠ .stale →
          (x.heard ≠ expected → l.txSlot * 32 + l.txBase ≤ x.heard → x.heard < l.txSlot * 32 + l.txBase + l.width →
            j.outcome = .order ∧ early) ∧
          (x.heard ≠ expected → ¬ (l.txSlot * 32 + l.txBase ≤ x.heard ∧ x.heard < l.txSlot * 32 + l.txBase + l.width) →
            j.outcome = .misrouted ∧ early) ∧
          (x.heard = expected → 2 ≤ h.list.length ∨ h.overflow = true → j.outcome = .bridged ∧ early) ∧
          (x.heard = expected → h.list.length < 2 → h.overflow = false →
            (0 < o.dropouts → j.outcome = .unstable ∧ early) ∧
            (o.dropouts = 0 → x.cls = .inverted → l.polarity = false → j.outcome = .polarity ∧ early) ∧
            (o.dropouts = 0 → x.cls = .direct ∨ l.polarity = true →
              j.outcome = outcomeByMargin o.figure o.errors (s.classes.get l.lossClass) ∧
              j.invertedOk = decide (x.cls = .inverted) ∧ j.judged = true))))

/-- The verdict record of a link: the most severe of its lane outcomes and its SKEW outcome by the ranks of R150, the worst lane and
the untested reason (R151), the margin figure and the skew whatever the verdict, and the three notes (R152). SATURATED is written
exactly when some lane whose figure was computed, which is a lane with compared units or one judged at the error stage, has units
saturated or errors saturated (R131). -/
def Obligations.LinkVerdictIsMostSevere : Prop :=
  ∀ (s : State) (l : Link) (v : VerdictRecord) (lanes : List Observation) (skew : Bool),
    1 ≤ l.width → s.evaluate l = v →
    lanes = (List.range l.width).map (fun i => s.observations.get (l.rxSlot * 32 + l.rxBase + i)) →
    skew = skewExceeded l.budget (linkSkew lanes) →
    [Verdict.untested, .open, .garbled, .bridged, .misrouted, .order, .stale, .unstable, .polarity, .errors, .skew,
      .unproven, .marginal, .pass].map Verdict.code = [1, 2, 3, 4, 5, 6, 7, 8, 9, 10, 11, 12, 13, 14] ∧
    ((∃ i, i < l.width ∧ (s.judgeLane l i).outcome = v.verdict) ∨ (skew = true ∧ v.verdict = .skew)) ∧
    (∀ i, i < l.width → v.verdict.code ≤ (s.judgeLane l i).outcome.code) ∧
    (skew = true → v.verdict.code ≤ 11) ∧
    (v.verdict ≠ .skew → v.worstLane < l.width ∧ (s.judgeLane l v.worstLane).outcome = v.verdict ∧
      ∀ i, i < v.worstLane → (s.judgeLane l i).outcome ≠ v.verdict) ∧
    (v.verdict = .skew → ∃ z, (lanes.getD v.worstLane {}).average = some z ∧
      ((∀ o ∈ lanes, ∀ y, o.average = some y → y ≤ z) ∨ (∀ o ∈ lanes, ∀ y, o.average = some y → z ≤ y)) ∧
      ∀ i, i < v.worstLane → ∀ y, (lanes.getD i {}).average = some y →
        (∃ o ∈ lanes, ∃ a, o.average = some a ∧ y < a) ∧ ∃ o ∈ lanes, ∃ a, o.average = some a ∧ a < y) ∧
    (v.verdict = .untested → v.reason = (s.judgeLane l v.worstLane).reason) ∧
    (v.verdict ≠ .untested → v.reason = none) ∧
    v.margin = linkMargin lanes ∧ v.skew = linkSkew lanes ∧
    v.notes.reversed = (s.reversalSeen l && l.reversal) ∧
    (v.notes.invertedOk = true ↔ ∃ i, i < l.width ∧ (s.judgeLane l i).invertedOk = true) ∧
    (v.notes.saturated = true ↔ ∃ i o, i < l.width ∧ s.observations.get (l.rxSlot * 32 + l.rxBase + i) = o ∧
      (0 < o.units ∨ (s.judgeLane l i).judged = true) ∧ (o.unitsSaturated = true ∨ o.errorsSaturated = true))

/-- A step of the pass. A link's step writes its verdict record and offers a LINK finding unless it passed (R141, R153); an
endpoint's step offers an UNPLANNED finding for an unplanned settled record (R154). The finding is pushed with the next number, or
held when 64 are queued (R156), and the position moves on when nothing is held (R140, R155). The last clause, that a command of
the engine changes only the lines where the engine has nothing to take or waits, is the model's choice (log 7). -/
def Obligations.EngineSteps : Prop :=
  (∀ (s : State) (k : Nat), s.cursor.stage = .links → s.cursor.position = some k →
    (∀ j, k < j → s.links.get j ≠ none → (∀ i, k < i → i < j → s.links.get i = none) →
      s.advance = { s with cursor := { s.cursor with position := some j } }) ∧
    ((∀ j, k < j → s.links.get j = none) →
      s.advance = { s with cursor := { s.cursor with stage := .unplanned, position := some 0 } })) ∧
  (∀ (s : State) (e : Nat), s.cursor.stage = .unplanned → s.cursor.position = some e →
    (e < 767 → s.advance = { s with cursor := { s.cursor with position := some (e + 1) } }) ∧
    (e = 767 → ∀ done : State, done =
        { s with
          cursor := { s.cursor with stage := .complete, position := none }
          seq := { s.seq with evaluation := .complete } } →
      (s.seq.sweep = .reduce → s.seq.quietCall = .complete →
        s.advance =
          { done with
            seq := { done.seq with sweep := .done, timer := .haltedOff, hold := 0 }
            slots := s.slots.map fun r =>
              if r.participating then { r with state := .enrolled, participating := false } else r
            windows := Table.replicate _ {}, stateSeen := false }) ∧
      (s.seq.sweep ≠ .reduce ∨ s.seq.quietCall ≠ .complete → s.advance = done))) ∧
  (∀ (s t : State) (k : Nat) (l : Link) (v : VerdictRecord) (f : Finding) (o : Observation),
    s.seq.sweep = .reduce ∨ (∃ p, s.seq.sweep = .halted p) → s.cursor.stage = .links →
    s.cursor.pendingFinding = none → s.cursor.position = some k → s.links.get k = some l → s.evaluate l = v →
    t = { s with verdicts := s.verdicts.set k v } →
    s.observations.get (l.rxSlot * 32 + l.rxBase + v.worstLane) = o →
    f = { kind := .link, linkId := some k, rx := l.rxSlot * 32 + l.rxBase + v.worstLane, verdict := v.verdict,
          heard := o.settled.map fun x => { endpoint := x.heard, cls := x.cls }, margin := v.margin, skew := v.skew,
          notes := v.notes } →
    (v.verdict = .pass → exec .linkEvaluationStep s = .next (t.advance.driven false)) ∧
    (v.verdict ≠ .pass → s.findings.length < 64 → exec .linkEvaluationStep s = .next (State.driven false
      (State.advance { t with findings := s.findings ++ [{ seq := s.nextSeq, finding := f }],
                              nextSeq := s.nextSeq + 1 }))) ∧
    (v.verdict ≠ .pass → 64 ≤ s.findings.length → exec .linkEvaluationStep s = .next (State.driven false
      { t with cursor := { s.cursor with pendingFinding := some f } }))) ∧
  (∀ (s : State) (e : Nat) (o : Observation), s.seq.sweep = .reduce ∨ (∃ p, s.seq.sweep = .halted p) →
    s.cursor.stage = .unplanned → s.cursor.pendingFinding = none → s.cursor.position = some e →
    s.observations.get e = o →
    (o.planned.isSome = true ∨ o.settled = none → exec .unplannedScanStep s = .next (s.advance.driven false)) ∧
    (∀ x f, o.planned = none → o.settled = some x →
      f = { kind := .unplanned, linkId := none, rx := e, verdict := .unplanned,
            heard := some { endpoint := x.heard, cls := x.cls },
            margin := if 0 < o.units then some (marginFigure (o.units * 256) o.errors) else none, skew := none,
            notes := { reversed := false, invertedOk := false, saturated := o.unitsSaturated || o.errorsSaturated } } →
      (s.findings.length < 64 → exec .unplannedScanStep s = .next (State.driven false
        (State.advance { s with findings := s.findings ++ [{ seq := s.nextSeq, finding := f }],
                                nextSeq := s.nextSeq + 1 }))) ∧
      (64 ≤ s.findings.length → exec .unplannedScanStep s = .next (State.driven false
        { s with cursor := { s.cursor with pendingFinding := some f } })))) ∧
  ∀ s : State,
    ((s.seq.sweep ≠ .reduce ∧ (∀ p, s.seq.sweep ≠ .halted p)) ∨ s.cursor.pendingFinding.isSome = true →
      exec .linkEvaluationStep s = .next (s.showing .none) ∧ exec .unplannedScanStep s = .next (s.showing .none)) ∧
    (s.cursor.stage ≠ .links → exec .linkEvaluationStep s = .next (s.showing .none)) ∧
    (s.cursor.stage ≠ .unplanned → exec .unplannedScanStep s = .next (s.showing .none))

/-- PEEK FINDING shows the head and the count and changes nothing (R166). RELEASE FINDING removes the head it names, and a finding
the engine holds takes the place freed, with the next number, in the same event (R167). The bytes of the PEEK FINDING reply are
the model's reading of R189, log 6; the first clauses write out the codes and the encodings it is spelled with. -/
def Obligations.FindingQueueRequests : Prop :=
  [Verdict.notEvaluated, .untested, .open, .garbled, .bridged, .misrouted, .order, .stale, .unstable, .polarity, .errors,
    .skew, .unproven, .marginal, .pass, .unplanned].map Verdict.code =
    [0, 1, 2, 3, 4, 5, 6, 7, 8, 9, 10, 11, 12, 13, 14, 15] ∧
  [SettledClass.direct, .inverted, .stale].map SettledClass.code = [0, 1, 2] ∧
  (optionalBytes 1 none = [0, 0] ∧ ∀ n, optionalBytes 1 (some n) = [1, byte n]) ∧
  (optionalBytes 2 none = [0, 0, 0] ∧ ∀ n, optionalBytes 2 (some n) = 1 :: twoBytes n) ∧
  ∀ (s : State) (rq : Requester), s.FromStation rq →
    (s.findings = [] → exec (.peekFinding rq) s = .next (s.answered rq .empty [])) ∧
    (s.findings = [] → ∀ n, exec (.releaseFinding rq n) s = .next (s.answered rq .empty [])) ∧
    ∀ (head : QueuedFinding) (rest : List QueuedFinding) (f : Finding), s.findings = head :: rest → f = head.finding →
      exec (.peekFinding rq) s = .next (s.answered rq .ok
        (twoBytes head.seq ++ ([match f.kind with | .link => 0 | .unplanned => 1] : List Byte) ++ optionalBytes 2 f.linkId ++
          twoBytes f.rx ++ [byte f.verdict.code] ++
          (match f.heard with | none => [0, 0, 0, 0] | some x => [1] ++ twoBytes x.endpoint ++ [byte x.cls.code]) ++
          optionalBytes 1 f.margin ++ optionalBytes 2 f.skew ++
          [byte ((if f.notes.reversed then 1 else 0) + (if f.notes.invertedOk then 2 else 0) +
            (if f.notes.saturated then 4 else 0)), byte (rest.length + 1)])) ∧
      (∀ n : Half, n.toNat ≠ head.seq → exec (.releaseFinding rq n) s = .next (s.answered rq .mismatch
        (twoBytes head.seq ++ [byte (rest.length + 1)]))) ∧
      (∀ n : Half, n.toNat = head.seq → s.cursor.pendingFinding = none →
        exec (.releaseFinding rq n) s = .next (State.answered { s with findings := rest } rq .ok
          (twoBytes head.seq ++ [byte rest.length, 0]))) ∧
      (∀ (n : Half) (p : Finding), n.toNat = head.seq → s.cursor.pendingFinding = some p →
        exec (.releaseFinding rq n) s = .next (State.answered
          (State.advance
            { s with
              findings := rest ++ [{ seq := s.nextSeq, finding := p }]
              nextSeq := s.nextSeq + 1
              cursor := { s.cursor with pendingFinding := none } }) rq .ok
          (twoBytes head.seq ++ [byte (rest.length + 1), 1])))

-- ==== The laws of the part ====

/-- Every step keeps the law that every link record is in range and no two planned links share a receive endpoint or a transmit
endpoint (R14), and the law that an unused link id has the verdict NOT_EVALUATED. -/
def Obligations.PlanStaysExclusive : Prop :=
  ∀ s t : State, step s = .next t → (s.PlanOk → t.PlanOk) ∧ (s.UnusedOk → t.UnusedOk)

/-- Every step keeps the law that each source id appears in at most one roster record (R25), and that every slot record is as R18
and R19 describe it for the sweep state. -/
def Obligations.RosterLawsStay : Prop :=
  ∀ s t : State, step s = .next t → (s.SourcesOk → t.SourcesOk) ∧ (s.RosterOk → t.RosterOk)

/-- Every step keeps the generation in 1..63 whenever the sweep state is not IDLE (R42), and hold remaining and every slot's hold
charge within their limits (R81), with the settings in their ranges (R83). -/
def Obligations.GenerationAndHoldsStay : Prop :=
  ∀ s t : State, step s = .next t → (s.GenerationOk → t.GenerationOk) ∧ (s.HoldOk → t.HoldOk)

/-- With a sound roster, every step keeps the sweep as chapter 4 describes it (the timer of R56, the boundaries of R59, the quiet
call and its deadline, at most 4610 markers before it) and the cursor as R139 and R140 describe it. With an exclusive plan it also
keeps the planned links of a sweep in agreement with the plan (R105), and the next sequence number within the links and unplanned
endpoints that the pass has taken and at most 768 (R164). -/
def Obligations.SweepAndCursorStay : Prop :=
  ∀ s t : State, step s = .next t → s.RosterOk → s.SweepOk → s.CursorOk →
    t.SweepOk ∧ t.CursorOk ∧
    (s.PlanOk → s.PlannedOk → t.PlannedOk ∧ (s.NumbersOk → t.NumbersOk))

/-- Every step keeps every observation record sound: the totals within their limits, at most a run of 3, settled exactly with a
run of 3 on the settled word (R112, R114); and neither total decreases except when the table is cleared (R112). -/
def Obligations.EvidenceStays : Prop :=
  ∀ s t : State, step s = .next t → s.EvidenceOk →
    t.EvidenceOk ∧
    ((∀ e, (s.observations.get e).units ≤ (t.observations.get e).units ∧
        (s.observations.get e).errors ≤ (t.observations.get e).errors) ∨
      ∀ e, (t.observations.get e).units = 0 ∧ (t.observations.get e).errors = 0)

/-- Every step keeps each hearers list at no more than 4 distinct receive endpoints, each settled DIRECT or INVERTED on that
transmit endpoint (R121), and keeps every margin figure in 0..46 and every link skew in 0..4094 (R129, R135). -/
def Obligations.HearingAndFiguresStay : Prop :=
  ∀ s t : State, step s = .next t → (s.HearingOk → t.HearingOk) ∧ (s.EvidenceOk → s.FiguresOk → t.FiguresOk)

/-- Every step keeps the Finding Queue at no more than 64 findings with consecutive numbers (R165), and ATTN equal to its condition
(R170). -/
def Obligations.QueueAndAttentionStay : Prop :=
  ∀ s t : State, step s = .next t → (s.QueueOk → t.QueueOk) ∧ (s.AttnOk → t.AttnOk)

/-- Every law holds right after reset. -/
def Obligations.LawsHoldAtReset : Prop :=
  State.reset.PlanOk ∧ State.reset.UnusedOk ∧ State.reset.SourcesOk ∧ State.reset.RosterOk ∧ State.reset.GenerationOk ∧
    State.reset.HoldOk ∧ State.reset.SweepOk ∧ State.reset.CursorOk ∧ State.reset.PlannedOk ∧ State.reset.NumbersOk ∧
    State.reset.EvidenceOk ∧ State.reset.HearingOk ∧ State.reset.FiguresOk ∧ State.reset.QueueOk ∧ State.reset.AttnOk
end

