-- ==== Sys2Proof/Laws/State.lean ====
section
/-!
SUPPORT. What each plain update of the state does to each field: one lemma per field per update, true by rfl.
-/

namespace Sys2Proof.Machine

-- ==== quietLines ====

@[simp] theorem State.quietLines_pending (s : State) : s.quietLines.pending = s.pending := rfl
@[simp] theorem State.quietLines_links (s : State) : s.quietLines.links = s.links := rfl
@[simp] theorem State.quietLines_classes (s : State) : s.quietLines.classes = s.classes := rfl
@[simp] theorem State.quietLines_slots (s : State) : s.quietLines.slots = s.slots := rfl
@[simp] theorem State.quietLines_windows (s : State) : s.quietLines.windows = s.windows := rfl
@[simp] theorem State.quietLines_generation (s : State) : s.quietLines.generation = s.generation := rfl
@[simp] theorem State.quietLines_seq (s : State) : s.quietLines.seq = s.seq := rfl
@[simp] theorem State.quietLines_timing (s : State) : s.quietLines.timing = s.timing := rfl
@[simp] theorem State.quietLines_observations (s : State) : s.quietLines.observations = s.observations := rfl
@[simp] theorem State.quietLines_hearing (s : State) : s.quietLines.hearing = s.hearing := rfl
@[simp] theorem State.quietLines_cursor (s : State) : s.quietLines.cursor = s.cursor := rfl
@[simp] theorem State.quietLines_verdicts (s : State) : s.quietLines.verdicts = s.verdicts := rfl
@[simp] theorem State.quietLines_findings (s : State) : s.quietLines.findings = s.findings := rfl
@[simp] theorem State.quietLines_nextSeq (s : State) : s.quietLines.nextSeq = s.nextSeq := rfl
@[simp] theorem State.quietLines_stateSeen (s : State) : s.quietLines.stateSeen = s.stateSeen := rfl
@[simp] theorem State.quietLines_port (s : State) : s.quietLines.port = s.port := rfl
@[simp] theorem State.quietLines_lines (s : State) :
    s.quietLines.lines = { s.lines with epochPulse := false, ack := .none, sent := none } := rfl

-- ==== giveAck ====

@[simp] theorem State.giveAck_pending (a : BusAck) (s : State) : (s.giveAck a).pending = s.pending := rfl
@[simp] theorem State.giveAck_links (a : BusAck) (s : State) : (s.giveAck a).links = s.links := rfl
@[simp] theorem State.giveAck_classes (a : BusAck) (s : State) : (s.giveAck a).classes = s.classes := rfl
@[simp] theorem State.giveAck_slots (a : BusAck) (s : State) : (s.giveAck a).slots = s.slots := rfl
@[simp] theorem State.giveAck_windows (a : BusAck) (s : State) : (s.giveAck a).windows = s.windows := rfl
@[simp] theorem State.giveAck_generation (a : BusAck) (s : State) : (s.giveAck a).generation = s.generation := rfl
@[simp] theorem State.giveAck_seq (a : BusAck) (s : State) : (s.giveAck a).seq = s.seq := rfl
@[simp] theorem State.giveAck_timing (a : BusAck) (s : State) : (s.giveAck a).timing = s.timing := rfl
@[simp] theorem State.giveAck_observations (a : BusAck) (s : State) :
    (s.giveAck a).observations = s.observations := rfl
@[simp] theorem State.giveAck_hearing (a : BusAck) (s : State) : (s.giveAck a).hearing = s.hearing := rfl
@[simp] theorem State.giveAck_cursor (a : BusAck) (s : State) : (s.giveAck a).cursor = s.cursor := rfl
@[simp] theorem State.giveAck_verdicts (a : BusAck) (s : State) : (s.giveAck a).verdicts = s.verdicts := rfl
@[simp] theorem State.giveAck_findings (a : BusAck) (s : State) : (s.giveAck a).findings = s.findings := rfl
@[simp] theorem State.giveAck_nextSeq (a : BusAck) (s : State) : (s.giveAck a).nextSeq = s.nextSeq := rfl
@[simp] theorem State.giveAck_stateSeen (a : BusAck) (s : State) : (s.giveAck a).stateSeen = s.stateSeen := rfl
@[simp] theorem State.giveAck_port (a : BusAck) (s : State) : (s.giveAck a).port = s.port := rfl
@[simp] theorem State.giveAck_lines (a : BusAck) (s : State) : (s.giveAck a).lines = { s.lines with ack := a } := rfl

-- ==== driveAttn ====

@[simp] theorem State.driveAttn_pending (s : State) : s.driveAttn.pending = s.pending := rfl
@[simp] theorem State.driveAttn_links (s : State) : s.driveAttn.links = s.links := rfl
@[simp] theorem State.driveAttn_classes (s : State) : s.driveAttn.classes = s.classes := rfl
@[simp] theorem State.driveAttn_slots (s : State) : s.driveAttn.slots = s.slots := rfl
@[simp] theorem State.driveAttn_windows (s : State) : s.driveAttn.windows = s.windows := rfl
@[simp] theorem State.driveAttn_generation (s : State) : s.driveAttn.generation = s.generation := rfl
@[simp] theorem State.driveAttn_seq (s : State) : s.driveAttn.seq = s.seq := rfl
@[simp] theorem State.driveAttn_timing (s : State) : s.driveAttn.timing = s.timing := rfl
@[simp] theorem State.driveAttn_observations (s : State) : s.driveAttn.observations = s.observations := rfl
@[simp] theorem State.driveAttn_hearing (s : State) : s.driveAttn.hearing = s.hearing := rfl
@[simp] theorem State.driveAttn_cursor (s : State) : s.driveAttn.cursor = s.cursor := rfl
@[simp] theorem State.driveAttn_verdicts (s : State) : s.driveAttn.verdicts = s.verdicts := rfl
@[simp] theorem State.driveAttn_findings (s : State) : s.driveAttn.findings = s.findings := rfl
@[simp] theorem State.driveAttn_nextSeq (s : State) : s.driveAttn.nextSeq = s.nextSeq := rfl
@[simp] theorem State.driveAttn_stateSeen (s : State) : s.driveAttn.stateSeen = s.stateSeen := rfl
@[simp] theorem State.driveAttn_port (s : State) : s.driveAttn.port = s.port := rfl
@[simp] theorem State.driveAttn_lines (s : State) : s.driveAttn.lines = { s.lines with attn := s.attnCondition } := rfl

-- ==== setSeen ====

@[simp] theorem State.setSeen_pending (s : State) : s.setSeen.pending = s.pending := rfl
@[simp] theorem State.setSeen_links (s : State) : s.setSeen.links = s.links := rfl
@[simp] theorem State.setSeen_classes (s : State) : s.setSeen.classes = s.classes := rfl
@[simp] theorem State.setSeen_slots (s : State) : s.setSeen.slots = s.slots := rfl
@[simp] theorem State.setSeen_windows (s : State) : s.setSeen.windows = s.windows := rfl
@[simp] theorem State.setSeen_generation (s : State) : s.setSeen.generation = s.generation := rfl
@[simp] theorem State.setSeen_seq (s : State) : s.setSeen.seq = s.seq := rfl
@[simp] theorem State.setSeen_timing (s : State) : s.setSeen.timing = s.timing := rfl
@[simp] theorem State.setSeen_observations (s : State) : s.setSeen.observations = s.observations := rfl
@[simp] theorem State.setSeen_hearing (s : State) : s.setSeen.hearing = s.hearing := rfl
@[simp] theorem State.setSeen_cursor (s : State) : s.setSeen.cursor = s.cursor := rfl
@[simp] theorem State.setSeen_verdicts (s : State) : s.setSeen.verdicts = s.verdicts := rfl
@[simp] theorem State.setSeen_findings (s : State) : s.setSeen.findings = s.findings := rfl
@[simp] theorem State.setSeen_nextSeq (s : State) : s.setSeen.nextSeq = s.nextSeq := rfl
@[simp] theorem State.setSeen_stateSeen (s : State) : s.setSeen.stateSeen = true := rfl
@[simp] theorem State.setSeen_port (s : State) : s.setSeen.port = s.port := rfl
@[simp] theorem State.setSeen_lines (s : State) : s.setSeen.lines = s.lines := rfl

-- ==== endFrame ====

@[simp] theorem State.endFrame_pending (c : Bool) (r : Result) (p : List Byte) (s : State) :
    (s.endFrame c r p).pending = s.pending := rfl
@[simp] theorem State.endFrame_links (c : Bool) (r : Result) (p : List Byte) (s : State) :
    (s.endFrame c r p).links = s.links := rfl
@[simp] theorem State.endFrame_classes (c : Bool) (r : Result) (p : List Byte) (s : State) :
    (s.endFrame c r p).classes = s.classes := rfl
@[simp] theorem State.endFrame_slots (c : Bool) (r : Result) (p : List Byte) (s : State) :
    (s.endFrame c r p).slots = s.slots := rfl
@[simp] theorem State.endFrame_windows (c : Bool) (r : Result) (p : List Byte) (s : State) :
    (s.endFrame c r p).windows = s.windows := rfl
@[simp] theorem State.endFrame_generation (c : Bool) (r : Result) (p : List Byte) (s : State) :
    (s.endFrame c r p).generation = s.generation := rfl
@[simp] theorem State.endFrame_seq (c : Bool) (r : Result) (p : List Byte) (s : State) :
    (s.endFrame c r p).seq = s.seq := rfl
@[simp] theorem State.endFrame_timing (c : Bool) (r : Result) (p : List Byte) (s : State) :
    (s.endFrame c r p).timing = s.timing := rfl
@[simp] theorem State.endFrame_observations (c : Bool) (r : Result) (p : List Byte) (s : State) :
    (s.endFrame c r p).observations = s.observations := rfl
@[simp] theorem State.endFrame_hearing (c : Bool) (r : Result) (p : List Byte) (s : State) :
    (s.endFrame c r p).hearing = s.hearing := rfl
@[simp] theorem State.endFrame_cursor (c : Bool) (r : Result) (p : List Byte) (s : State) :
    (s.endFrame c r p).cursor = s.cursor := rfl
@[simp] theorem State.endFrame_verdicts (c : Bool) (r : Result) (p : List Byte) (s : State) :
    (s.endFrame c r p).verdicts = s.verdicts := rfl
@[simp] theorem State.endFrame_findings (c : Bool) (r : Result) (p : List Byte) (s : State) :
    (s.endFrame c r p).findings = s.findings := rfl
@[simp] theorem State.endFrame_nextSeq (c : Bool) (r : Result) (p : List Byte) (s : State) :
    (s.endFrame c r p).nextSeq = s.nextSeq := rfl
@[simp] theorem State.endFrame_stateSeen (c : Bool) (r : Result) (p : List Byte) (s : State) :
    (s.endFrame c r p).stateSeen = s.stateSeen := rfl
@[simp] theorem State.endFrame_port (c : Bool) (r : Result) (p : List Byte) (s : State) :
    (s.endFrame c r p).port =
      { s.port with decoder := .ended, frame := [], bus := .writing, reply := some (s.reply c r p) } := rfl
@[simp] theorem State.endFrame_lines (c : Bool) (r : Result) (p : List Byte) (s : State) :
    (s.endFrame c r p).lines = s.lines := rfl

-- ==== withPending ====

@[simp] theorem State.withPending_pending (s : State) (q : List Instr) : (s.withPending q).pending = q := rfl
@[simp] theorem State.withPending_links (s : State) (q : List Instr) : (s.withPending q).links = s.links := rfl
@[simp] theorem State.withPending_classes (s : State) (q : List Instr) : (s.withPending q).classes = s.classes := rfl
@[simp] theorem State.withPending_slots (s : State) (q : List Instr) : (s.withPending q).slots = s.slots := rfl
@[simp] theorem State.withPending_windows (s : State) (q : List Instr) : (s.withPending q).windows = s.windows := rfl
@[simp] theorem State.withPending_generation (s : State) (q : List Instr) :
    (s.withPending q).generation = s.generation := rfl
@[simp] theorem State.withPending_seq (s : State) (q : List Instr) : (s.withPending q).seq = s.seq := rfl
@[simp] theorem State.withPending_timing (s : State) (q : List Instr) : (s.withPending q).timing = s.timing := rfl
@[simp] theorem State.withPending_observations (s : State) (q : List Instr) :
    (s.withPending q).observations = s.observations := rfl
@[simp] theorem State.withPending_hearing (s : State) (q : List Instr) : (s.withPending q).hearing = s.hearing := rfl
@[simp] theorem State.withPending_cursor (s : State) (q : List Instr) : (s.withPending q).cursor = s.cursor := rfl
@[simp] theorem State.withPending_verdicts (s : State) (q : List Instr) :
    (s.withPending q).verdicts = s.verdicts := rfl
@[simp] theorem State.withPending_findings (s : State) (q : List Instr) :
    (s.withPending q).findings = s.findings := rfl
@[simp] theorem State.withPending_nextSeq (s : State) (q : List Instr) : (s.withPending q).nextSeq = s.nextSeq := rfl
@[simp] theorem State.withPending_stateSeen (s : State) (q : List Instr) :
    (s.withPending q).stateSeen = s.stateSeen := rfl
@[simp] theorem State.withPending_port (s : State) (q : List Instr) : (s.withPending q).port = s.port := rfl
@[simp] theorem State.withPending_lines (s : State) (q : List Instr) : (s.withPending q).lines = s.lines := rfl

-- ==== storeLink ====

@[simp] theorem State.storeLink_pending (i : Nat) (l : Link) (s : State) : (s.storeLink i l).pending = s.pending := rfl
@[simp] theorem State.storeLink_links (i : Nat) (l : Link) (s : State) :
    (s.storeLink i l).links = s.links.set i (some l) := rfl
@[simp] theorem State.storeLink_classes (i : Nat) (l : Link) (s : State) : (s.storeLink i l).classes = s.classes := rfl
@[simp] theorem State.storeLink_slots (i : Nat) (l : Link) (s : State) : (s.storeLink i l).slots = s.slots := rfl
@[simp] theorem State.storeLink_windows (i : Nat) (l : Link) (s : State) : (s.storeLink i l).windows = s.windows := rfl
@[simp] theorem State.storeLink_generation (i : Nat) (l : Link) (s : State) :
    (s.storeLink i l).generation = s.generation := rfl
@[simp] theorem State.storeLink_seq (i : Nat) (l : Link) (s : State) : (s.storeLink i l).seq = s.seq := rfl
@[simp] theorem State.storeLink_timing (i : Nat) (l : Link) (s : State) : (s.storeLink i l).timing = s.timing := rfl
@[simp] theorem State.storeLink_observations (i : Nat) (l : Link) (s : State) :
    (s.storeLink i l).observations = s.observations := rfl
@[simp] theorem State.storeLink_hearing (i : Nat) (l : Link) (s : State) : (s.storeLink i l).hearing = s.hearing := rfl
@[simp] theorem State.storeLink_cursor (i : Nat) (l : Link) (s : State) : (s.storeLink i l).cursor = s.cursor := rfl
@[simp] theorem State.storeLink_verdicts (i : Nat) (l : Link) (s : State) :
    (s.storeLink i l).verdicts = s.verdicts.set i {} := rfl
@[simp] theorem State.storeLink_findings (i : Nat) (l : Link) (s : State) :
    (s.storeLink i l).findings = s.findings := rfl
@[simp] theorem State.storeLink_nextSeq (i : Nat) (l : Link) (s : State) : (s.storeLink i l).nextSeq = s.nextSeq := rfl
@[simp] theorem State.storeLink_stateSeen (i : Nat) (l : Link) (s : State) :
    (s.storeLink i l).stateSeen = s.stateSeen := rfl
@[simp] theorem State.storeLink_port (i : Nat) (l : Link) (s : State) : (s.storeLink i l).port = s.port := rfl
@[simp] theorem State.storeLink_lines (i : Nat) (l : Link) (s : State) : (s.storeLink i l).lines = s.lines := rfl

-- ==== removeLink ====

@[simp] theorem State.removeLink_pending (i : Nat) (s : State) : (s.removeLink i).pending = s.pending := rfl
@[simp] theorem State.removeLink_links (i : Nat) (s : State) : (s.removeLink i).links = s.links.set i none := rfl
@[simp] theorem State.removeLink_classes (i : Nat) (s : State) : (s.removeLink i).classes = s.classes := rfl
@[simp] theorem State.removeLink_slots (i : Nat) (s : State) : (s.removeLink i).slots = s.slots := rfl
@[simp] theorem State.removeLink_windows (i : Nat) (s : State) : (s.removeLink i).windows = s.windows := rfl
@[simp] theorem State.removeLink_generation (i : Nat) (s : State) : (s.removeLink i).generation = s.generation := rfl
@[simp] theorem State.removeLink_seq (i : Nat) (s : State) : (s.removeLink i).seq = s.seq := rfl
@[simp] theorem State.removeLink_timing (i : Nat) (s : State) : (s.removeLink i).timing = s.timing := rfl
@[simp] theorem State.removeLink_observations (i : Nat) (s : State) :
    (s.removeLink i).observations = s.observations := rfl
@[simp] theorem State.removeLink_hearing (i : Nat) (s : State) : (s.removeLink i).hearing = s.hearing := rfl
@[simp] theorem State.removeLink_cursor (i : Nat) (s : State) : (s.removeLink i).cursor = s.cursor := rfl
@[simp] theorem State.removeLink_verdicts (i : Nat) (s : State) :
    (s.removeLink i).verdicts = s.verdicts.set i {} := rfl
@[simp] theorem State.removeLink_findings (i : Nat) (s : State) : (s.removeLink i).findings = s.findings := rfl
@[simp] theorem State.removeLink_nextSeq (i : Nat) (s : State) : (s.removeLink i).nextSeq = s.nextSeq := rfl
@[simp] theorem State.removeLink_stateSeen (i : Nat) (s : State) : (s.removeLink i).stateSeen = s.stateSeen := rfl
@[simp] theorem State.removeLink_port (i : Nat) (s : State) : (s.removeLink i).port = s.port := rfl
@[simp] theorem State.removeLink_lines (i : Nat) (s : State) : (s.removeLink i).lines = s.lines := rfl

-- ==== emptyPlan ====

@[simp] theorem State.emptyPlan_pending (s : State) : s.emptyPlan.pending = s.pending := rfl
@[simp] theorem State.emptyPlan_links (s : State) : s.emptyPlan.links = Table.replicate _ none := rfl
@[simp] theorem State.emptyPlan_classes (s : State) : s.emptyPlan.classes = s.classes := rfl
@[simp] theorem State.emptyPlan_slots (s : State) : s.emptyPlan.slots = s.slots := rfl
@[simp] theorem State.emptyPlan_windows (s : State) : s.emptyPlan.windows = s.windows := rfl
@[simp] theorem State.emptyPlan_generation (s : State) : s.emptyPlan.generation = s.generation := rfl
@[simp] theorem State.emptyPlan_seq (s : State) : s.emptyPlan.seq = s.seq := rfl
@[simp] theorem State.emptyPlan_timing (s : State) : s.emptyPlan.timing = s.timing := rfl
@[simp] theorem State.emptyPlan_observations (s : State) : s.emptyPlan.observations = s.observations := rfl
@[simp] theorem State.emptyPlan_hearing (s : State) : s.emptyPlan.hearing = s.hearing := rfl
@[simp] theorem State.emptyPlan_cursor (s : State) : s.emptyPlan.cursor = s.cursor := rfl
@[simp] theorem State.emptyPlan_verdicts (s : State) : s.emptyPlan.verdicts = Table.replicate _ {} := rfl
@[simp] theorem State.emptyPlan_findings (s : State) : s.emptyPlan.findings = s.findings := rfl
@[simp] theorem State.emptyPlan_nextSeq (s : State) : s.emptyPlan.nextSeq = s.nextSeq := rfl
@[simp] theorem State.emptyPlan_stateSeen (s : State) : s.emptyPlan.stateSeen = s.stateSeen := rfl
@[simp] theorem State.emptyPlan_port (s : State) : s.emptyPlan.port = s.port := rfl
@[simp] theorem State.emptyPlan_lines (s : State) : s.emptyPlan.lines = s.lines := rfl

-- ==== setSlot ====

@[simp] theorem State.setSlot_pending (i : Nat) (r : SlotRecord) (s : State) :
    (s.setSlot i r).pending = s.pending := rfl
@[simp] theorem State.setSlot_links (i : Nat) (r : SlotRecord) (s : State) : (s.setSlot i r).links = s.links := rfl
@[simp] theorem State.setSlot_classes (i : Nat) (r : SlotRecord) (s : State) :
    (s.setSlot i r).classes = s.classes := rfl
@[simp] theorem State.setSlot_slots (i : Nat) (r : SlotRecord) (s : State) :
    (s.setSlot i r).slots = s.slots.set i r := rfl
@[simp] theorem State.setSlot_windows (i : Nat) (r : SlotRecord) (s : State) :
    (s.setSlot i r).windows = s.windows := rfl
@[simp] theorem State.setSlot_generation (i : Nat) (r : SlotRecord) (s : State) :
    (s.setSlot i r).generation = s.generation := rfl
@[simp] theorem State.setSlot_seq (i : Nat) (r : SlotRecord) (s : State) : (s.setSlot i r).seq = s.seq := rfl
@[simp] theorem State.setSlot_timing (i : Nat) (r : SlotRecord) (s : State) : (s.setSlot i r).timing = s.timing := rfl
@[simp] theorem State.setSlot_observations (i : Nat) (r : SlotRecord) (s : State) :
    (s.setSlot i r).observations = s.observations := rfl
@[simp] theorem State.setSlot_hearing (i : Nat) (r : SlotRecord) (s : State) :
    (s.setSlot i r).hearing = s.hearing := rfl
@[simp] theorem State.setSlot_cursor (i : Nat) (r : SlotRecord) (s : State) : (s.setSlot i r).cursor = s.cursor := rfl
@[simp] theorem State.setSlot_verdicts (i : Nat) (r : SlotRecord) (s : State) :
    (s.setSlot i r).verdicts = s.verdicts := rfl
@[simp] theorem State.setSlot_findings (i : Nat) (r : SlotRecord) (s : State) :
    (s.setSlot i r).findings = s.findings := rfl
@[simp] theorem State.setSlot_nextSeq (i : Nat) (r : SlotRecord) (s : State) :
    (s.setSlot i r).nextSeq = s.nextSeq := rfl
@[simp] theorem State.setSlot_stateSeen (i : Nat) (r : SlotRecord) (s : State) :
    (s.setSlot i r).stateSeen = s.stateSeen := rfl
@[simp] theorem State.setSlot_port (i : Nat) (r : SlotRecord) (s : State) : (s.setSlot i r).port = s.port := rfl
@[simp] theorem State.setSlot_lines (i : Nat) (r : SlotRecord) (s : State) : (s.setSlot i r).lines = s.lines := rfl

-- ==== emptyWindows ====

@[simp] theorem State.emptyWindows_pending (s : State) : s.emptyWindows.pending = s.pending := rfl
@[simp] theorem State.emptyWindows_links (s : State) : s.emptyWindows.links = s.links := rfl
@[simp] theorem State.emptyWindows_classes (s : State) : s.emptyWindows.classes = s.classes := rfl
@[simp] theorem State.emptyWindows_slots (s : State) : s.emptyWindows.slots = s.slots := rfl
@[simp] theorem State.emptyWindows_windows (s : State) : s.emptyWindows.windows = Table.replicate _ {} := rfl
@[simp] theorem State.emptyWindows_generation (s : State) : s.emptyWindows.generation = s.generation := rfl
@[simp] theorem State.emptyWindows_seq (s : State) : s.emptyWindows.seq = s.seq := rfl
@[simp] theorem State.emptyWindows_timing (s : State) : s.emptyWindows.timing = s.timing := rfl
@[simp] theorem State.emptyWindows_observations (s : State) : s.emptyWindows.observations = s.observations := rfl
@[simp] theorem State.emptyWindows_hearing (s : State) : s.emptyWindows.hearing = s.hearing := rfl
@[simp] theorem State.emptyWindows_cursor (s : State) : s.emptyWindows.cursor = s.cursor := rfl
@[simp] theorem State.emptyWindows_verdicts (s : State) : s.emptyWindows.verdicts = s.verdicts := rfl
@[simp] theorem State.emptyWindows_findings (s : State) : s.emptyWindows.findings = s.findings := rfl
@[simp] theorem State.emptyWindows_nextSeq (s : State) : s.emptyWindows.nextSeq = s.nextSeq := rfl
@[simp] theorem State.emptyWindows_stateSeen (s : State) : s.emptyWindows.stateSeen = s.stateSeen := rfl
@[simp] theorem State.emptyWindows_port (s : State) : s.emptyWindows.port = s.port := rfl
@[simp] theorem State.emptyWindows_lines (s : State) : s.emptyWindows.lines = s.lines := rfl

-- ==== restartTimer ====

@[simp] theorem State.restartTimer_pending (s : State) : s.restartTimer.pending = s.pending := rfl
@[simp] theorem State.restartTimer_links (s : State) : s.restartTimer.links = s.links := rfl
@[simp] theorem State.restartTimer_classes (s : State) : s.restartTimer.classes = s.classes := rfl
@[simp] theorem State.restartTimer_slots (s : State) : s.restartTimer.slots = s.slots := rfl
@[simp] theorem State.restartTimer_windows (s : State) : s.restartTimer.windows = s.windows := rfl
@[simp] theorem State.restartTimer_generation (s : State) : s.restartTimer.generation = s.generation := rfl
@[simp] theorem State.restartTimer_seq (s : State) :
    s.restartTimer.seq = { s.seq with timer := .running s.timing.period } := rfl
@[simp] theorem State.restartTimer_timing (s : State) : s.restartTimer.timing = s.timing := rfl
@[simp] theorem State.restartTimer_observations (s : State) : s.restartTimer.observations = s.observations := rfl
@[simp] theorem State.restartTimer_hearing (s : State) : s.restartTimer.hearing = s.hearing := rfl
@[simp] theorem State.restartTimer_cursor (s : State) : s.restartTimer.cursor = s.cursor := rfl
@[simp] theorem State.restartTimer_verdicts (s : State) : s.restartTimer.verdicts = s.verdicts := rfl
@[simp] theorem State.restartTimer_findings (s : State) : s.restartTimer.findings = s.findings := rfl
@[simp] theorem State.restartTimer_nextSeq (s : State) : s.restartTimer.nextSeq = s.nextSeq := rfl
@[simp] theorem State.restartTimer_stateSeen (s : State) : s.restartTimer.stateSeen = s.stateSeen := rfl
@[simp] theorem State.restartTimer_port (s : State) : s.restartTimer.port = s.port := rfl
@[simp] theorem State.restartTimer_lines (s : State) : s.restartTimer.lines = s.lines := rfl

-- ==== enterTerminal ====

@[simp] theorem State.enterTerminal_pending (w : SweepState) (s : State) :
    (s.enterTerminal w).pending = s.pending := rfl
@[simp] theorem State.enterTerminal_links (w : SweepState) (s : State) : (s.enterTerminal w).links = s.links := rfl
@[simp] theorem State.enterTerminal_classes (w : SweepState) (s : State) :
    (s.enterTerminal w).classes = s.classes := rfl
@[simp] theorem State.enterTerminal_slots (w : SweepState) (s : State) :
    (s.enterTerminal w).slots = s.slots.map SlotRecord.sweepEnd := rfl
@[simp] theorem State.enterTerminal_windows (w : SweepState) (s : State) :
    (s.enterTerminal w).windows = Table.replicate _ {} := rfl
@[simp] theorem State.enterTerminal_generation (w : SweepState) (s : State) :
    (s.enterTerminal w).generation = s.generation := rfl
@[simp] theorem State.enterTerminal_seq (w : SweepState) (s : State) :
    (s.enterTerminal w).seq = { s.seq with sweep := w, timer := .haltedOff, hold := 0 } := rfl
@[simp] theorem State.enterTerminal_timing (w : SweepState) (s : State) : (s.enterTerminal w).timing = s.timing := rfl
@[simp] theorem State.enterTerminal_observations (w : SweepState) (s : State) :
    (s.enterTerminal w).observations = s.observations := rfl
@[simp] theorem State.enterTerminal_hearing (w : SweepState) (s : State) :
    (s.enterTerminal w).hearing = s.hearing := rfl
@[simp] theorem State.enterTerminal_cursor (w : SweepState) (s : State) : (s.enterTerminal w).cursor = s.cursor := rfl
@[simp] theorem State.enterTerminal_verdicts (w : SweepState) (s : State) :
    (s.enterTerminal w).verdicts = s.verdicts := rfl
@[simp] theorem State.enterTerminal_findings (w : SweepState) (s : State) :
    (s.enterTerminal w).findings = s.findings := rfl
@[simp] theorem State.enterTerminal_nextSeq (w : SweepState) (s : State) :
    (s.enterTerminal w).nextSeq = s.nextSeq := rfl
@[simp] theorem State.enterTerminal_stateSeen (w : SweepState) (s : State) :
    (s.enterTerminal w).stateSeen = false := rfl
@[simp] theorem State.enterTerminal_port (w : SweepState) (s : State) : (s.enterTerminal w).port = s.port := rfl
@[simp] theorem State.enterTerminal_lines (w : SweepState) (s : State) : (s.enterTerminal w).lines = s.lines := rfl

-- ==== enterStopped ====

@[simp] theorem State.enterStopped_pending (p : ResumePhase) (s : State) :
    (s.enterStopped p).pending = s.pending := rfl
@[simp] theorem State.enterStopped_links (p : ResumePhase) (s : State) : (s.enterStopped p).links = s.links := rfl
@[simp] theorem State.enterStopped_classes (p : ResumePhase) (s : State) :
    (s.enterStopped p).classes = s.classes := rfl
@[simp] theorem State.enterStopped_slots (p : ResumePhase) (s : State) : (s.enterStopped p).slots = s.slots := rfl
@[simp] theorem State.enterStopped_windows (p : ResumePhase) (s : State) :
    (s.enterStopped p).windows = s.windows := rfl
@[simp] theorem State.enterStopped_generation (p : ResumePhase) (s : State) :
    (s.enterStopped p).generation = s.generation := rfl
@[simp] theorem State.enterStopped_seq (p : ResumePhase) (s : State) :
    (s.enterStopped p).seq = { s.seq with sweep := .stopped p, timer := .suspended, hold := 0 } := rfl
@[simp] theorem State.enterStopped_timing (p : ResumePhase) (s : State) : (s.enterStopped p).timing = s.timing := rfl
@[simp] theorem State.enterStopped_observations (p : ResumePhase) (s : State) :
    (s.enterStopped p).observations = s.observations := rfl
@[simp] theorem State.enterStopped_hearing (p : ResumePhase) (s : State) :
    (s.enterStopped p).hearing = s.hearing := rfl
@[simp] theorem State.enterStopped_cursor (p : ResumePhase) (s : State) : (s.enterStopped p).cursor = s.cursor := rfl
@[simp] theorem State.enterStopped_verdicts (p : ResumePhase) (s : State) :
    (s.enterStopped p).verdicts = s.verdicts := rfl
@[simp] theorem State.enterStopped_findings (p : ResumePhase) (s : State) :
    (s.enterStopped p).findings = s.findings := rfl
@[simp] theorem State.enterStopped_nextSeq (p : ResumePhase) (s : State) :
    (s.enterStopped p).nextSeq = s.nextSeq := rfl
@[simp] theorem State.enterStopped_stateSeen (p : ResumePhase) (s : State) :
    (s.enterStopped p).stateSeen = false := rfl
@[simp] theorem State.enterStopped_port (p : ResumePhase) (s : State) : (s.enterStopped p).port = s.port := rfl
@[simp] theorem State.enterStopped_lines (p : ResumePhase) (s : State) : (s.enterStopped p).lines = s.lines := rfl

-- ==== enterHalted ====

@[simp] theorem State.enterHalted_pending (o : HaltOrigin) (s : State) : (s.enterHalted o).pending = s.pending := rfl
@[simp] theorem State.enterHalted_links (o : HaltOrigin) (s : State) : (s.enterHalted o).links = s.links := rfl
@[simp] theorem State.enterHalted_classes (o : HaltOrigin) (s : State) : (s.enterHalted o).classes = s.classes := rfl
@[simp] theorem State.enterHalted_slots (o : HaltOrigin) (s : State) : (s.enterHalted o).slots = s.slots := rfl
@[simp] theorem State.enterHalted_windows (o : HaltOrigin) (s : State) : (s.enterHalted o).windows = s.windows := rfl
@[simp] theorem State.enterHalted_generation (o : HaltOrigin) (s : State) :
    (s.enterHalted o).generation = s.generation := rfl
@[simp] theorem State.enterHalted_seq (o : HaltOrigin) (s : State) :
    (s.enterHalted o).seq =
      { s.seq with sweep := .halted o, timer := .haltedOff, hold := 0, haltSlots := s.owingSet } := rfl
@[simp] theorem State.enterHalted_timing (o : HaltOrigin) (s : State) : (s.enterHalted o).timing = s.timing := rfl
@[simp] theorem State.enterHalted_observations (o : HaltOrigin) (s : State) :
    (s.enterHalted o).observations = s.observations := rfl
@[simp] theorem State.enterHalted_hearing (o : HaltOrigin) (s : State) : (s.enterHalted o).hearing = s.hearing := rfl
@[simp] theorem State.enterHalted_cursor (o : HaltOrigin) (s : State) : (s.enterHalted o).cursor = s.cursor := rfl
@[simp] theorem State.enterHalted_verdicts (o : HaltOrigin) (s : State) :
    (s.enterHalted o).verdicts = s.verdicts := rfl
@[simp] theorem State.enterHalted_findings (o : HaltOrigin) (s : State) :
    (s.enterHalted o).findings = s.findings := rfl
@[simp] theorem State.enterHalted_nextSeq (o : HaltOrigin) (s : State) : (s.enterHalted o).nextSeq = s.nextSeq := rfl
@[simp] theorem State.enterHalted_stateSeen (o : HaltOrigin) (s : State) : (s.enterHalted o).stateSeen = false := rfl
@[simp] theorem State.enterHalted_port (o : HaltOrigin) (s : State) : (s.enterHalted o).port = s.port := rfl
@[simp] theorem State.enterHalted_lines (o : HaltOrigin) (s : State) : (s.enterHalted o).lines = s.lines := rfl

-- ==== startQuietCall ====

@[simp] theorem State.startQuietCall_pending (s : State) : s.startQuietCall.pending = s.pending := rfl
@[simp] theorem State.startQuietCall_links (s : State) : s.startQuietCall.links = s.links := rfl
@[simp] theorem State.startQuietCall_classes (s : State) : s.startQuietCall.classes = s.classes := rfl
@[simp] theorem State.startQuietCall_slots (s : State) :
    s.startQuietCall.slots = s.slots.map SlotRecord.callQuiet := rfl
@[simp] theorem State.startQuietCall_windows (s : State) : s.startQuietCall.windows = s.windows := rfl
@[simp] theorem State.startQuietCall_generation (s : State) : s.startQuietCall.generation = s.generation := rfl
@[simp] theorem State.startQuietCall_seq (s : State) :
    s.startQuietCall.seq = { s.seq with quietCall := .pending, quietDeadline := some (s.seq.epoch + 4) } := rfl
@[simp] theorem State.startQuietCall_timing (s : State) : s.startQuietCall.timing = s.timing := rfl
@[simp] theorem State.startQuietCall_observations (s : State) : s.startQuietCall.observations = s.observations := rfl
@[simp] theorem State.startQuietCall_hearing (s : State) : s.startQuietCall.hearing = s.hearing := rfl
@[simp] theorem State.startQuietCall_cursor (s : State) : s.startQuietCall.cursor = s.cursor := rfl
@[simp] theorem State.startQuietCall_verdicts (s : State) : s.startQuietCall.verdicts = s.verdicts := rfl
@[simp] theorem State.startQuietCall_findings (s : State) : s.startQuietCall.findings = s.findings := rfl
@[simp] theorem State.startQuietCall_nextSeq (s : State) : s.startQuietCall.nextSeq = s.nextSeq := rfl
@[simp] theorem State.startQuietCall_stateSeen (s : State) : s.startQuietCall.stateSeen = s.stateSeen := rfl
@[simp] theorem State.startQuietCall_port (s : State) : s.startQuietCall.port = s.port := rfl
@[simp] theorem State.startQuietCall_lines (s : State) : s.startQuietCall.lines = s.lines := rfl

-- ==== closeSweep ====

@[simp] theorem State.closeSweep_pending (s : State) : s.closeSweep.pending = s.pending := rfl
@[simp] theorem State.closeSweep_links (s : State) : s.closeSweep.links = s.links := rfl
@[simp] theorem State.closeSweep_classes (s : State) : s.closeSweep.classes = s.classes := rfl
@[simp] theorem State.closeSweep_slots (s : State) : s.closeSweep.slots = s.slots := rfl
@[simp] theorem State.closeSweep_windows (s : State) : s.closeSweep.windows = s.windows := rfl
@[simp] theorem State.closeSweep_generation (s : State) : s.closeSweep.generation = s.generation := rfl
@[simp] theorem State.closeSweep_seq (s : State) :
    s.closeSweep.seq = { s.seq with closing := some (s.seq.closing.getD s.seq.epoch) } := rfl
@[simp] theorem State.closeSweep_timing (s : State) : s.closeSweep.timing = s.timing := rfl
@[simp] theorem State.closeSweep_observations (s : State) : s.closeSweep.observations = s.observations := rfl
@[simp] theorem State.closeSweep_hearing (s : State) : s.closeSweep.hearing = s.hearing := rfl
@[simp] theorem State.closeSweep_cursor (s : State) : s.closeSweep.cursor = s.cursor := rfl
@[simp] theorem State.closeSweep_verdicts (s : State) : s.closeSweep.verdicts = s.verdicts := rfl
@[simp] theorem State.closeSweep_findings (s : State) : s.closeSweep.findings = s.findings := rfl
@[simp] theorem State.closeSweep_nextSeq (s : State) : s.closeSweep.nextSeq = s.nextSeq := rfl
@[simp] theorem State.closeSweep_stateSeen (s : State) : s.closeSweep.stateSeen = s.stateSeen := rfl
@[simp] theorem State.closeSweep_port (s : State) : s.closeSweep.port = s.port := rfl
@[simp] theorem State.closeSweep_lines (s : State) : s.closeSweep.lines = s.lines := rfl

-- ==== setCause ====

@[simp] theorem State.setCause_pending (c : AbortCause) (s : State) : (s.setCause c).pending = s.pending := rfl
@[simp] theorem State.setCause_links (c : AbortCause) (s : State) : (s.setCause c).links = s.links := rfl
@[simp] theorem State.setCause_classes (c : AbortCause) (s : State) : (s.setCause c).classes = s.classes := rfl
@[simp] theorem State.setCause_slots (c : AbortCause) (s : State) : (s.setCause c).slots = s.slots := rfl
@[simp] theorem State.setCause_windows (c : AbortCause) (s : State) : (s.setCause c).windows = s.windows := rfl
@[simp] theorem State.setCause_generation (c : AbortCause) (s : State) :
    (s.setCause c).generation = s.generation := rfl
@[simp] theorem State.setCause_seq (c : AbortCause) (s : State) :
    (s.setCause c).seq = { s.seq with abortCause := c } := rfl
@[simp] theorem State.setCause_timing (c : AbortCause) (s : State) : (s.setCause c).timing = s.timing := rfl
@[simp] theorem State.setCause_observations (c : AbortCause) (s : State) :
    (s.setCause c).observations = s.observations := rfl
@[simp] theorem State.setCause_hearing (c : AbortCause) (s : State) : (s.setCause c).hearing = s.hearing := rfl
@[simp] theorem State.setCause_cursor (c : AbortCause) (s : State) : (s.setCause c).cursor = s.cursor := rfl
@[simp] theorem State.setCause_verdicts (c : AbortCause) (s : State) : (s.setCause c).verdicts = s.verdicts := rfl
@[simp] theorem State.setCause_findings (c : AbortCause) (s : State) : (s.setCause c).findings = s.findings := rfl
@[simp] theorem State.setCause_nextSeq (c : AbortCause) (s : State) : (s.setCause c).nextSeq = s.nextSeq := rfl
@[simp] theorem State.setCause_stateSeen (c : AbortCause) (s : State) : (s.setCause c).stateSeen = s.stateSeen := rfl
@[simp] theorem State.setCause_port (c : AbortCause) (s : State) : (s.setCause c).port = s.port := rfl
@[simp] theorem State.setCause_lines (c : AbortCause) (s : State) : (s.setCause c).lines = s.lines := rfl

-- ==== enterAborting ====

@[simp] theorem State.enterAborting_pending (s : State) : s.enterAborting.pending = s.pending := rfl
@[simp] theorem State.enterAborting_links (s : State) : s.enterAborting.links = s.links := rfl
@[simp] theorem State.enterAborting_classes (s : State) : s.enterAborting.classes = s.classes := rfl
@[simp] theorem State.enterAborting_slots (s : State) : s.enterAborting.slots = s.slots := rfl
@[simp] theorem State.enterAborting_windows (s : State) : s.enterAborting.windows = s.windows := rfl
@[simp] theorem State.enterAborting_generation (s : State) : s.enterAborting.generation = s.generation := rfl
@[simp] theorem State.enterAborting_seq (s : State) :
    s.enterAborting.seq = { s.seq with sweep := .aborting, hold := 0 } := rfl
@[simp] theorem State.enterAborting_timing (s : State) : s.enterAborting.timing = s.timing := rfl
@[simp] theorem State.enterAborting_observations (s : State) : s.enterAborting.observations = s.observations := rfl
@[simp] theorem State.enterAborting_hearing (s : State) : s.enterAborting.hearing = s.hearing := rfl
@[simp] theorem State.enterAborting_cursor (s : State) : s.enterAborting.cursor = s.cursor := rfl
@[simp] theorem State.enterAborting_verdicts (s : State) : s.enterAborting.verdicts = s.verdicts := rfl
@[simp] theorem State.enterAborting_findings (s : State) : s.enterAborting.findings = s.findings := rfl
@[simp] theorem State.enterAborting_nextSeq (s : State) : s.enterAborting.nextSeq = s.nextSeq := rfl
@[simp] theorem State.enterAborting_stateSeen (s : State) : s.enterAborting.stateSeen = s.stateSeen := rfl
@[simp] theorem State.enterAborting_port (s : State) : s.enterAborting.port = s.port := rfl
@[simp] theorem State.enterAborting_lines (s : State) : s.enterAborting.lines = s.lines := rfl

-- ==== pushFinding ====

@[simp] theorem State.pushFinding_pending (f : Finding) (s : State) : (s.pushFinding f).pending = s.pending := rfl
@[simp] theorem State.pushFinding_links (f : Finding) (s : State) : (s.pushFinding f).links = s.links := rfl
@[simp] theorem State.pushFinding_classes (f : Finding) (s : State) : (s.pushFinding f).classes = s.classes := rfl
@[simp] theorem State.pushFinding_slots (f : Finding) (s : State) : (s.pushFinding f).slots = s.slots := rfl
@[simp] theorem State.pushFinding_windows (f : Finding) (s : State) : (s.pushFinding f).windows = s.windows := rfl
@[simp] theorem State.pushFinding_generation (f : Finding) (s : State) :
    (s.pushFinding f).generation = s.generation := rfl
@[simp] theorem State.pushFinding_seq (f : Finding) (s : State) : (s.pushFinding f).seq = s.seq := rfl
@[simp] theorem State.pushFinding_timing (f : Finding) (s : State) : (s.pushFinding f).timing = s.timing := rfl
@[simp] theorem State.pushFinding_observations (f : Finding) (s : State) :
    (s.pushFinding f).observations = s.observations := rfl
@[simp] theorem State.pushFinding_hearing (f : Finding) (s : State) : (s.pushFinding f).hearing = s.hearing := rfl
@[simp] theorem State.pushFinding_cursor (f : Finding) (s : State) : (s.pushFinding f).cursor = s.cursor := rfl
@[simp] theorem State.pushFinding_verdicts (f : Finding) (s : State) : (s.pushFinding f).verdicts = s.verdicts := rfl
@[simp] theorem State.pushFinding_findings (f : Finding) (s : State) :
    (s.pushFinding f).findings = s.findings ++ [{ seq := s.nextSeq, finding := f }] := rfl
@[simp] theorem State.pushFinding_nextSeq (f : Finding) (s : State) : (s.pushFinding f).nextSeq = s.nextSeq + 1 := rfl
@[simp] theorem State.pushFinding_stateSeen (f : Finding) (s : State) :
    (s.pushFinding f).stateSeen = s.stateSeen := rfl
@[simp] theorem State.pushFinding_port (f : Finding) (s : State) : (s.pushFinding f).port = s.port := rfl
@[simp] theorem State.pushFinding_lines (f : Finding) (s : State) : (s.pushFinding f).lines = s.lines := rfl

-- ==== addPage ====

@[simp] theorem State.addPage_pending (i p : Nat) (s : State) : (s.addPage i p).pending = s.pending := rfl
@[simp] theorem State.addPage_links (i p : Nat) (s : State) : (s.addPage i p).links = s.links := rfl
@[simp] theorem State.addPage_classes (i p : Nat) (s : State) : (s.addPage i p).classes = s.classes := rfl
@[simp] theorem State.addPage_slots (i p : Nat) (s : State) :
    (s.addPage i p).slots =
      s.slots.set i { s.slots.get i with pages := (s.slots.get i).pages ||| BitVec.twoPow 2 p } := rfl
@[simp] theorem State.addPage_windows (i p : Nat) (s : State) : (s.addPage i p).windows = s.windows := rfl
@[simp] theorem State.addPage_generation (i p : Nat) (s : State) : (s.addPage i p).generation = s.generation := rfl
@[simp] theorem State.addPage_seq (i p : Nat) (s : State) : (s.addPage i p).seq = s.seq := rfl
@[simp] theorem State.addPage_timing (i p : Nat) (s : State) : (s.addPage i p).timing = s.timing := rfl
@[simp] theorem State.addPage_observations (i p : Nat) (s : State) :
    (s.addPage i p).observations = s.observations := rfl
@[simp] theorem State.addPage_hearing (i p : Nat) (s : State) : (s.addPage i p).hearing = s.hearing := rfl
@[simp] theorem State.addPage_cursor (i p : Nat) (s : State) : (s.addPage i p).cursor = s.cursor := rfl
@[simp] theorem State.addPage_verdicts (i p : Nat) (s : State) : (s.addPage i p).verdicts = s.verdicts := rfl
@[simp] theorem State.addPage_findings (i p : Nat) (s : State) : (s.addPage i p).findings = s.findings := rfl
@[simp] theorem State.addPage_nextSeq (i p : Nat) (s : State) : (s.addPage i p).nextSeq = s.nextSeq := rfl
@[simp] theorem State.addPage_stateSeen (i p : Nat) (s : State) : (s.addPage i p).stateSeen = s.stateSeen := rfl
@[simp] theorem State.addPage_port (i p : Nat) (s : State) : (s.addPage i p).port = s.port := rfl
@[simp] theorem State.addPage_lines (i p : Nat) (s : State) : (s.addPage i p).lines = s.lines := rfl

-- ==== acknowledge ====

@[simp] theorem State.acknowledge_pending (i : Nat) (s : State) : (s.acknowledge i).pending = s.pending := rfl
@[simp] theorem State.acknowledge_links (i : Nat) (s : State) : (s.acknowledge i).links = s.links := rfl
@[simp] theorem State.acknowledge_classes (i : Nat) (s : State) : (s.acknowledge i).classes = s.classes := rfl
@[simp] theorem State.acknowledge_slots (i : Nat) (s : State) :
    (s.acknowledge i).slots = s.slots.set i { s.slots.get i with quietAcked := true } := rfl
@[simp] theorem State.acknowledge_windows (i : Nat) (s : State) : (s.acknowledge i).windows = s.windows := rfl
@[simp] theorem State.acknowledge_generation (i : Nat) (s : State) : (s.acknowledge i).generation = s.generation := rfl
@[simp] theorem State.acknowledge_seq (i : Nat) (s : State) : (s.acknowledge i).seq = s.seq := rfl
@[simp] theorem State.acknowledge_timing (i : Nat) (s : State) : (s.acknowledge i).timing = s.timing := rfl
@[simp] theorem State.acknowledge_observations (i : Nat) (s : State) :
    (s.acknowledge i).observations = s.observations := rfl
@[simp] theorem State.acknowledge_hearing (i : Nat) (s : State) : (s.acknowledge i).hearing = s.hearing := rfl
@[simp] theorem State.acknowledge_cursor (i : Nat) (s : State) : (s.acknowledge i).cursor = s.cursor := rfl
@[simp] theorem State.acknowledge_verdicts (i : Nat) (s : State) : (s.acknowledge i).verdicts = s.verdicts := rfl
@[simp] theorem State.acknowledge_findings (i : Nat) (s : State) : (s.acknowledge i).findings = s.findings := rfl
@[simp] theorem State.acknowledge_nextSeq (i : Nat) (s : State) : (s.acknowledge i).nextSeq = s.nextSeq := rfl
@[simp] theorem State.acknowledge_stateSeen (i : Nat) (s : State) : (s.acknowledge i).stateSeen = s.stateSeen := rfl
@[simp] theorem State.acknowledge_port (i : Nat) (s : State) : (s.acknowledge i).port = s.port := rfl
@[simp] theorem State.acknowledge_lines (i : Nat) (s : State) : (s.acknowledge i).lines = s.lines := rfl

-- ==== countGaps ====

@[simp] theorem State.countGaps_pending (s : State) : s.countGaps.pending = s.pending := rfl
@[simp] theorem State.countGaps_links (s : State) : s.countGaps.links = s.links := rfl
@[simp] theorem State.countGaps_classes (s : State) : s.countGaps.classes = s.classes := rfl
@[simp] theorem State.countGaps_slots (s : State) : s.countGaps.slots = s.slots := rfl
@[simp] theorem State.countGaps_windows (s : State) : s.countGaps.windows = s.windows := rfl
@[simp] theorem State.countGaps_generation (s : State) : s.countGaps.generation = s.generation := rfl
@[simp] theorem State.countGaps_seq (s : State) : s.countGaps.seq = s.seq := rfl
@[simp] theorem State.countGaps_timing (s : State) : s.countGaps.timing = s.timing := rfl
@[simp] theorem State.countGaps_observations (s : State) :
    s.countGaps.observations =
      s.observations.mapIdx fun rx o => if gapAt s rx o then { o with gaps := min (o.gaps + 1) 4095 } else o := rfl
@[simp] theorem State.countGaps_hearing (s : State) : s.countGaps.hearing = s.hearing := rfl
@[simp] theorem State.countGaps_cursor (s : State) : s.countGaps.cursor = s.cursor := rfl
@[simp] theorem State.countGaps_verdicts (s : State) : s.countGaps.verdicts = s.verdicts := rfl
@[simp] theorem State.countGaps_findings (s : State) : s.countGaps.findings = s.findings := rfl
@[simp] theorem State.countGaps_nextSeq (s : State) : s.countGaps.nextSeq = s.nextSeq := rfl
@[simp] theorem State.countGaps_stateSeen (s : State) : s.countGaps.stateSeen = s.stateSeen := rfl
@[simp] theorem State.countGaps_port (s : State) : s.countGaps.port = s.port := rfl
@[simp] theorem State.countGaps_lines (s : State) : s.countGaps.lines = s.lines := rfl

-- ==== countMissedRuns ====

@[simp] theorem State.countMissedRuns_pending (s : State) : s.countMissedRuns.pending = s.pending := rfl
@[simp] theorem State.countMissedRuns_links (s : State) : s.countMissedRuns.links = s.links := rfl
@[simp] theorem State.countMissedRuns_classes (s : State) : s.countMissedRuns.classes = s.classes := rfl
@[simp] theorem State.countMissedRuns_slots (s : State) :
    s.countMissedRuns.slots = s.slots.mapIdx fun i r => r.countMissed (s.windows.get i) := rfl
@[simp] theorem State.countMissedRuns_windows (s : State) : s.countMissedRuns.windows = s.windows := rfl
@[simp] theorem State.countMissedRuns_generation (s : State) : s.countMissedRuns.generation = s.generation := rfl
@[simp] theorem State.countMissedRuns_seq (s : State) : s.countMissedRuns.seq = s.seq := rfl
@[simp] theorem State.countMissedRuns_timing (s : State) : s.countMissedRuns.timing = s.timing := rfl
@[simp] theorem State.countMissedRuns_observations (s : State) : s.countMissedRuns.observations = s.observations := rfl
@[simp] theorem State.countMissedRuns_hearing (s : State) : s.countMissedRuns.hearing = s.hearing := rfl
@[simp] theorem State.countMissedRuns_cursor (s : State) : s.countMissedRuns.cursor = s.cursor := rfl
@[simp] theorem State.countMissedRuns_verdicts (s : State) : s.countMissedRuns.verdicts = s.verdicts := rfl
@[simp] theorem State.countMissedRuns_findings (s : State) : s.countMissedRuns.findings = s.findings := rfl
@[simp] theorem State.countMissedRuns_nextSeq (s : State) : s.countMissedRuns.nextSeq = s.nextSeq := rfl
@[simp] theorem State.countMissedRuns_stateSeen (s : State) : s.countMissedRuns.stateSeen = s.stateSeen := rfl
@[simp] theorem State.countMissedRuns_port (s : State) : s.countMissedRuns.port = s.port := rfl
@[simp] theorem State.countMissedRuns_lines (s : State) : s.countMissedRuns.lines = s.lines := rfl

-- ==== pulse ====

@[simp] theorem State.pulse_pending (s : State) : s.pulse.pending = s.pending := rfl
@[simp] theorem State.pulse_links (s : State) : s.pulse.links = s.links := rfl
@[simp] theorem State.pulse_classes (s : State) : s.pulse.classes = s.classes := rfl
@[simp] theorem State.pulse_slots (s : State) : s.pulse.slots = s.slots := rfl
@[simp] theorem State.pulse_windows (s : State) : s.pulse.windows = s.windows := rfl
@[simp] theorem State.pulse_generation (s : State) : s.pulse.generation = s.generation := rfl
@[simp] theorem State.pulse_seq (s : State) :
    s.pulse.seq = { s.seq with epoch := s.seq.epoch + 1, timer := .running s.timing.period } := rfl
@[simp] theorem State.pulse_timing (s : State) : s.pulse.timing = s.timing := rfl
@[simp] theorem State.pulse_observations (s : State) : s.pulse.observations = s.observations := rfl
@[simp] theorem State.pulse_hearing (s : State) : s.pulse.hearing = s.hearing := rfl
@[simp] theorem State.pulse_cursor (s : State) : s.pulse.cursor = s.cursor := rfl
@[simp] theorem State.pulse_verdicts (s : State) : s.pulse.verdicts = s.verdicts := rfl
@[simp] theorem State.pulse_findings (s : State) : s.pulse.findings = s.findings := rfl
@[simp] theorem State.pulse_nextSeq (s : State) : s.pulse.nextSeq = s.nextSeq := rfl
@[simp] theorem State.pulse_stateSeen (s : State) : s.pulse.stateSeen = s.stateSeen := rfl
@[simp] theorem State.pulse_port (s : State) : s.pulse.port = s.port := rfl
@[simp] theorem State.pulse_lines (s : State) : s.pulse.lines = { s.lines with epochPulse := true } := rfl

-- ==== startSweep ====

@[simp] theorem State.startSweep_pending (s : State) : s.startSweep.pending = s.pending := rfl
@[simp] theorem State.startSweep_links (s : State) : s.startSweep.links = s.links := rfl
@[simp] theorem State.startSweep_classes (s : State) : s.startSweep.classes = s.classes := rfl
@[simp] theorem State.startSweep_slots (s : State) : s.startSweep.slots = s.slots.map SlotRecord.atStart := rfl
@[simp] theorem State.startSweep_windows (s : State) : s.startSweep.windows = Table.replicate _ {} := rfl
@[simp] theorem State.startSweep_generation (s : State) : s.startSweep.generation = nextGeneration s.generation := rfl
@[simp] theorem State.startSweep_seq (s : State) :
    s.startSweep.seq = { sweep := .arming, timer := .running s.timing.period } := rfl
@[simp] theorem State.startSweep_timing (s : State) : s.startSweep.timing = s.timing := rfl
@[simp] theorem State.startSweep_observations (s : State) :
    s.startSweep.observations = plannedObservations s.usedLinks := rfl
@[simp] theorem State.startSweep_hearing (s : State) : s.startSweep.hearing = Table.replicate _ {} := rfl
@[simp] theorem State.startSweep_cursor (s : State) : s.startSweep.cursor = {} := rfl
@[simp] theorem State.startSweep_verdicts (s : State) : s.startSweep.verdicts = Table.replicate _ {} := rfl
@[simp] theorem State.startSweep_findings (s : State) : s.startSweep.findings = [] := rfl
@[simp] theorem State.startSweep_nextSeq (s : State) : s.startSweep.nextSeq = 0 := rfl
@[simp] theorem State.startSweep_stateSeen (s : State) : s.startSweep.stateSeen = s.stateSeen := rfl
@[simp] theorem State.startSweep_port (s : State) : s.startSweep.port = s.port := rfl
@[simp] theorem State.startSweep_lines (s : State) : s.startSweep.lines = { s.lines with epochPulse := true } := rfl

-- ==== resume ====

@[simp] theorem State.resume_pending (w : SweepState) (s : State) : (s.resume w).pending = s.pending := rfl
@[simp] theorem State.resume_links (w : SweepState) (s : State) : (s.resume w).links = s.links := rfl
@[simp] theorem State.resume_classes (w : SweepState) (s : State) : (s.resume w).classes = s.classes := rfl
@[simp] theorem State.resume_slots (w : SweepState) (s : State) : (s.resume w).slots = s.slots := rfl
@[simp] theorem State.resume_windows (w : SweepState) (s : State) : (s.resume w).windows = s.windows := rfl
@[simp] theorem State.resume_generation (w : SweepState) (s : State) : (s.resume w).generation = s.generation := rfl
@[simp] theorem State.resume_seq (w : SweepState) (s : State) :
    (s.resume w).seq = { s.seq with sweep := w, timer := .running s.timing.period } := rfl
@[simp] theorem State.resume_timing (w : SweepState) (s : State) : (s.resume w).timing = s.timing := rfl
@[simp] theorem State.resume_observations (w : SweepState) (s : State) :
    (s.resume w).observations = s.observations := rfl
@[simp] theorem State.resume_hearing (w : SweepState) (s : State) : (s.resume w).hearing = s.hearing := rfl
@[simp] theorem State.resume_cursor (w : SweepState) (s : State) : (s.resume w).cursor = s.cursor := rfl
@[simp] theorem State.resume_verdicts (w : SweepState) (s : State) : (s.resume w).verdicts = s.verdicts := rfl
@[simp] theorem State.resume_findings (w : SweepState) (s : State) : (s.resume w).findings = s.findings := rfl
@[simp] theorem State.resume_nextSeq (w : SweepState) (s : State) : (s.resume w).nextSeq = s.nextSeq := rfl
@[simp] theorem State.resume_stateSeen (w : SweepState) (s : State) : (s.resume w).stateSeen = s.stateSeen := rfl
@[simp] theorem State.resume_port (w : SweepState) (s : State) : (s.resume w).port = s.port := rfl
@[simp] theorem State.resume_lines (w : SweepState) (s : State) : (s.resume w).lines = s.lines := rfl

-- ==== answerQuiet ====

@[simp] theorem State.answerQuiet_pending (s : State) : s.answerQuiet.pending = s.pending := rfl
@[simp] theorem State.answerQuiet_links (s : State) : s.answerQuiet.links = s.links := rfl
@[simp] theorem State.answerQuiet_classes (s : State) : s.answerQuiet.classes = s.classes := rfl
@[simp] theorem State.answerQuiet_slots (s : State) : s.answerQuiet.slots = s.slots.map SlotRecord.settleQuiet := rfl
@[simp] theorem State.answerQuiet_windows (s : State) : s.answerQuiet.windows = s.windows := rfl
@[simp] theorem State.answerQuiet_generation (s : State) : s.answerQuiet.generation = s.generation := rfl
@[simp] theorem State.answerQuiet_seq (s : State) : s.answerQuiet.seq = { s.seq with quietCall := .complete } := rfl
@[simp] theorem State.answerQuiet_timing (s : State) : s.answerQuiet.timing = s.timing := rfl
@[simp] theorem State.answerQuiet_observations (s : State) : s.answerQuiet.observations = s.observations := rfl
@[simp] theorem State.answerQuiet_hearing (s : State) : s.answerQuiet.hearing = s.hearing := rfl
@[simp] theorem State.answerQuiet_cursor (s : State) : s.answerQuiet.cursor = s.cursor := rfl
@[simp] theorem State.answerQuiet_verdicts (s : State) : s.answerQuiet.verdicts = s.verdicts := rfl
@[simp] theorem State.answerQuiet_findings (s : State) : s.answerQuiet.findings = s.findings := rfl
@[simp] theorem State.answerQuiet_nextSeq (s : State) : s.answerQuiet.nextSeq = s.nextSeq := rfl
@[simp] theorem State.answerQuiet_stateSeen (s : State) : s.answerQuiet.stateSeen = s.stateSeen := rfl
@[simp] theorem State.answerQuiet_port (s : State) : s.answerQuiet.port = s.port := rfl
@[simp] theorem State.answerQuiet_lines (s : State) : s.answerQuiet.lines = s.lines := rfl

-- ==== campaignReset ====

@[simp] theorem State.campaignReset_pending (s : State) : s.campaignReset.pending = s.pending := rfl
@[simp] theorem State.campaignReset_links (s : State) : s.campaignReset.links = Table.replicate _ none := rfl
@[simp] theorem State.campaignReset_classes (s : State) : s.campaignReset.classes = s.classes := rfl
@[simp] theorem State.campaignReset_slots (s : State) : s.campaignReset.slots = Table.replicate _ {} := rfl
@[simp] theorem State.campaignReset_windows (s : State) : s.campaignReset.windows = Table.replicate _ {} := rfl
@[simp] theorem State.campaignReset_generation (s : State) : s.campaignReset.generation = s.generation := rfl
@[simp] theorem State.campaignReset_seq (s : State) : s.campaignReset.seq = {} := rfl
@[simp] theorem State.campaignReset_timing (s : State) : s.campaignReset.timing = s.timing := rfl
@[simp] theorem State.campaignReset_observations (s : State) :
    s.campaignReset.observations = Table.replicate _ {} := rfl
@[simp] theorem State.campaignReset_hearing (s : State) : s.campaignReset.hearing = Table.replicate _ {} := rfl
@[simp] theorem State.campaignReset_cursor (s : State) : s.campaignReset.cursor = {} := rfl
@[simp] theorem State.campaignReset_verdicts (s : State) : s.campaignReset.verdicts = Table.replicate _ {} := rfl
@[simp] theorem State.campaignReset_findings (s : State) : s.campaignReset.findings = [] := rfl
@[simp] theorem State.campaignReset_nextSeq (s : State) : s.campaignReset.nextSeq = 0 := rfl
@[simp] theorem State.campaignReset_stateSeen (s : State) : s.campaignReset.stateSeen = s.stateSeen := rfl
@[simp] theorem State.campaignReset_port (s : State) : s.campaignReset.port = s.port := rfl
@[simp] theorem State.campaignReset_lines (s : State) : s.campaignReset.lines = s.lines := rfl

-- ==== grantHold ====

@[simp] theorem State.grantHold_pending (i g : Nat) (s : State) : (s.grantHold i g).pending = s.pending := rfl
@[simp] theorem State.grantHold_links (i g : Nat) (s : State) : (s.grantHold i g).links = s.links := rfl
@[simp] theorem State.grantHold_classes (i g : Nat) (s : State) : (s.grantHold i g).classes = s.classes := rfl
@[simp] theorem State.grantHold_slots (i g : Nat) (s : State) :
    (s.grantHold i g).slots =
      s.slots.set i { s.slots.get i with holdCharged := (s.slots.get i).holdCharged + g } := rfl
@[simp] theorem State.grantHold_windows (i g : Nat) (s : State) : (s.grantHold i g).windows = s.windows := rfl
@[simp] theorem State.grantHold_generation (i g : Nat) (s : State) : (s.grantHold i g).generation = s.generation := rfl
@[simp] theorem State.grantHold_seq (i g : Nat) (s : State) :
    (s.grantHold i g).seq = { s.seq with hold := s.seq.hold + g } := rfl
@[simp] theorem State.grantHold_timing (i g : Nat) (s : State) : (s.grantHold i g).timing = s.timing := rfl
@[simp] theorem State.grantHold_observations (i g : Nat) (s : State) :
    (s.grantHold i g).observations = s.observations := rfl
@[simp] theorem State.grantHold_hearing (i g : Nat) (s : State) : (s.grantHold i g).hearing = s.hearing := rfl
@[simp] theorem State.grantHold_cursor (i g : Nat) (s : State) : (s.grantHold i g).cursor = s.cursor := rfl
@[simp] theorem State.grantHold_verdicts (i g : Nat) (s : State) : (s.grantHold i g).verdicts = s.verdicts := rfl
@[simp] theorem State.grantHold_findings (i g : Nat) (s : State) : (s.grantHold i g).findings = s.findings := rfl
@[simp] theorem State.grantHold_nextSeq (i g : Nat) (s : State) : (s.grantHold i g).nextSeq = s.nextSeq := rfl
@[simp] theorem State.grantHold_stateSeen (i g : Nat) (s : State) : (s.grantHold i g).stateSeen = s.stateSeen := rfl
@[simp] theorem State.grantHold_port (i g : Nat) (s : State) : (s.grantHold i g).port = s.port := rfl
@[simp] theorem State.grantHold_lines (i g : Nat) (s : State) : (s.grantHold i g).lines = s.lines := rfl

-- ==== writeVerdict ====

@[simp] theorem State.writeVerdict_pending (i : Nat) (v : VerdictRecord) (s : State) :
    (s.writeVerdict i v).pending = s.pending := rfl
@[simp] theorem State.writeVerdict_links (i : Nat) (v : VerdictRecord) (s : State) :
    (s.writeVerdict i v).links = s.links := rfl
@[simp] theorem State.writeVerdict_classes (i : Nat) (v : VerdictRecord) (s : State) :
    (s.writeVerdict i v).classes = s.classes := rfl
@[simp] theorem State.writeVerdict_slots (i : Nat) (v : VerdictRecord) (s : State) :
    (s.writeVerdict i v).slots = s.slots := rfl
@[simp] theorem State.writeVerdict_windows (i : Nat) (v : VerdictRecord) (s : State) :
    (s.writeVerdict i v).windows = s.windows := rfl
@[simp] theorem State.writeVerdict_generation (i : Nat) (v : VerdictRecord) (s : State) :
    (s.writeVerdict i v).generation = s.generation := rfl
@[simp] theorem State.writeVerdict_seq (i : Nat) (v : VerdictRecord) (s : State) :
    (s.writeVerdict i v).seq = s.seq := rfl
@[simp] theorem State.writeVerdict_timing (i : Nat) (v : VerdictRecord) (s : State) :
    (s.writeVerdict i v).timing = s.timing := rfl
@[simp] theorem State.writeVerdict_observations (i : Nat) (v : VerdictRecord) (s : State) :
    (s.writeVerdict i v).observations = s.observations := rfl
@[simp] theorem State.writeVerdict_hearing (i : Nat) (v : VerdictRecord) (s : State) :
    (s.writeVerdict i v).hearing = s.hearing := rfl
@[simp] theorem State.writeVerdict_cursor (i : Nat) (v : VerdictRecord) (s : State) :
    (s.writeVerdict i v).cursor = s.cursor := rfl
@[simp] theorem State.writeVerdict_verdicts (i : Nat) (v : VerdictRecord) (s : State) :
    (s.writeVerdict i v).verdicts = s.verdicts.set i v := rfl
@[simp] theorem State.writeVerdict_findings (i : Nat) (v : VerdictRecord) (s : State) :
    (s.writeVerdict i v).findings = s.findings := rfl
@[simp] theorem State.writeVerdict_nextSeq (i : Nat) (v : VerdictRecord) (s : State) :
    (s.writeVerdict i v).nextSeq = s.nextSeq := rfl
@[simp] theorem State.writeVerdict_stateSeen (i : Nat) (v : VerdictRecord) (s : State) :
    (s.writeVerdict i v).stateSeen = s.stateSeen := rfl
@[simp] theorem State.writeVerdict_port (i : Nat) (v : VerdictRecord) (s : State) :
    (s.writeVerdict i v).port = s.port := rfl
@[simp] theorem State.writeVerdict_lines (i : Nat) (v : VerdictRecord) (s : State) :
    (s.writeVerdict i v).lines = s.lines := rfl

-- ==== awaitAddress ====

@[simp] theorem State.awaitAddress_pending (s : State) : s.awaitAddress.pending = s.pending := rfl
@[simp] theorem State.awaitAddress_links (s : State) : s.awaitAddress.links = s.links := rfl
@[simp] theorem State.awaitAddress_classes (s : State) : s.awaitAddress.classes = s.classes := rfl
@[simp] theorem State.awaitAddress_slots (s : State) : s.awaitAddress.slots = s.slots := rfl
@[simp] theorem State.awaitAddress_windows (s : State) : s.awaitAddress.windows = s.windows := rfl
@[simp] theorem State.awaitAddress_generation (s : State) : s.awaitAddress.generation = s.generation := rfl
@[simp] theorem State.awaitAddress_seq (s : State) : s.awaitAddress.seq = s.seq := rfl
@[simp] theorem State.awaitAddress_timing (s : State) : s.awaitAddress.timing = s.timing := rfl
@[simp] theorem State.awaitAddress_observations (s : State) : s.awaitAddress.observations = s.observations := rfl
@[simp] theorem State.awaitAddress_hearing (s : State) : s.awaitAddress.hearing = s.hearing := rfl
@[simp] theorem State.awaitAddress_cursor (s : State) : s.awaitAddress.cursor = s.cursor := rfl
@[simp] theorem State.awaitAddress_verdicts (s : State) : s.awaitAddress.verdicts = s.verdicts := rfl
@[simp] theorem State.awaitAddress_findings (s : State) : s.awaitAddress.findings = s.findings := rfl
@[simp] theorem State.awaitAddress_nextSeq (s : State) : s.awaitAddress.nextSeq = s.nextSeq := rfl
@[simp] theorem State.awaitAddress_stateSeen (s : State) : s.awaitAddress.stateSeen = s.stateSeen := rfl
@[simp] theorem State.awaitAddress_port (s : State) : s.awaitAddress.port = { s.port with bus := .address } := rfl
@[simp] theorem State.awaitAddress_lines (s : State) : s.awaitAddress.lines = s.lines := rfl

-- ==== freePort ====

@[simp] theorem State.freePort_pending (b : BusPhase) (s : State) : (s.freePort b).pending = s.pending := rfl
@[simp] theorem State.freePort_links (b : BusPhase) (s : State) : (s.freePort b).links = s.links := rfl
@[simp] theorem State.freePort_classes (b : BusPhase) (s : State) : (s.freePort b).classes = s.classes := rfl
@[simp] theorem State.freePort_slots (b : BusPhase) (s : State) : (s.freePort b).slots = s.slots := rfl
@[simp] theorem State.freePort_windows (b : BusPhase) (s : State) : (s.freePort b).windows = s.windows := rfl
@[simp] theorem State.freePort_generation (b : BusPhase) (s : State) : (s.freePort b).generation = s.generation := rfl
@[simp] theorem State.freePort_seq (b : BusPhase) (s : State) : (s.freePort b).seq = s.seq := rfl
@[simp] theorem State.freePort_timing (b : BusPhase) (s : State) : (s.freePort b).timing = s.timing := rfl
@[simp] theorem State.freePort_observations (b : BusPhase) (s : State) :
    (s.freePort b).observations = s.observations := rfl
@[simp] theorem State.freePort_hearing (b : BusPhase) (s : State) : (s.freePort b).hearing = s.hearing := rfl
@[simp] theorem State.freePort_cursor (b : BusPhase) (s : State) : (s.freePort b).cursor = s.cursor := rfl
@[simp] theorem State.freePort_verdicts (b : BusPhase) (s : State) : (s.freePort b).verdicts = s.verdicts := rfl
@[simp] theorem State.freePort_findings (b : BusPhase) (s : State) : (s.freePort b).findings = s.findings := rfl
@[simp] theorem State.freePort_nextSeq (b : BusPhase) (s : State) : (s.freePort b).nextSeq = s.nextSeq := rfl
@[simp] theorem State.freePort_stateSeen (b : BusPhase) (s : State) : (s.freePort b).stateSeen = s.stateSeen := rfl
@[simp] theorem State.freePort_port (b : BusPhase) (s : State) :
    (s.freePort b).port = { s.port with decoder := .free, frame := [], reply := none, bus := b } := rfl
@[simp] theorem State.freePort_lines (b : BusPhase) (s : State) : (s.freePort b).lines = s.lines := rfl

-- ==== setLatch ====

@[simp] theorem State.setLatch_pending (b : BusPhase) (s : State) : (s.setLatch b).pending = s.pending := rfl
@[simp] theorem State.setLatch_links (b : BusPhase) (s : State) : (s.setLatch b).links = s.links := rfl
@[simp] theorem State.setLatch_classes (b : BusPhase) (s : State) : (s.setLatch b).classes = s.classes := rfl
@[simp] theorem State.setLatch_slots (b : BusPhase) (s : State) : (s.setLatch b).slots = s.slots := rfl
@[simp] theorem State.setLatch_windows (b : BusPhase) (s : State) : (s.setLatch b).windows = s.windows := rfl
@[simp] theorem State.setLatch_generation (b : BusPhase) (s : State) : (s.setLatch b).generation = s.generation := rfl
@[simp] theorem State.setLatch_seq (b : BusPhase) (s : State) : (s.setLatch b).seq = s.seq := rfl
@[simp] theorem State.setLatch_timing (b : BusPhase) (s : State) : (s.setLatch b).timing = s.timing := rfl
@[simp] theorem State.setLatch_observations (b : BusPhase) (s : State) :
    (s.setLatch b).observations = s.observations := rfl
@[simp] theorem State.setLatch_hearing (b : BusPhase) (s : State) : (s.setLatch b).hearing = s.hearing := rfl
@[simp] theorem State.setLatch_cursor (b : BusPhase) (s : State) : (s.setLatch b).cursor = s.cursor := rfl
@[simp] theorem State.setLatch_verdicts (b : BusPhase) (s : State) : (s.setLatch b).verdicts = s.verdicts := rfl
@[simp] theorem State.setLatch_findings (b : BusPhase) (s : State) : (s.setLatch b).findings = s.findings := rfl
@[simp] theorem State.setLatch_nextSeq (b : BusPhase) (s : State) : (s.setLatch b).nextSeq = s.nextSeq := rfl
@[simp] theorem State.setLatch_stateSeen (b : BusPhase) (s : State) : (s.setLatch b).stateSeen = s.stateSeen := rfl
@[simp] theorem State.setLatch_port (b : BusPhase) (s : State) :
    (s.setLatch b).port = { s.port with latch := true, decoder := .free, frame := [], bus := b } := rfl
@[simp] theorem State.setLatch_lines (b : BusPhase) (s : State) :
    (s.setLatch b).lines = { s.lines with ack := .nak } := rfl

-- ==== holdReply ====

@[simp] theorem State.holdReply_pending (d : DecoderState) (r : Reply) (s : State) :
    (s.holdReply d r).pending = s.pending := rfl
@[simp] theorem State.holdReply_links (d : DecoderState) (r : Reply) (s : State) :
    (s.holdReply d r).links = s.links := rfl
@[simp] theorem State.holdReply_classes (d : DecoderState) (r : Reply) (s : State) :
    (s.holdReply d r).classes = s.classes := rfl
@[simp] theorem State.holdReply_slots (d : DecoderState) (r : Reply) (s : State) :
    (s.holdReply d r).slots = s.slots := rfl
@[simp] theorem State.holdReply_windows (d : DecoderState) (r : Reply) (s : State) :
    (s.holdReply d r).windows = s.windows := rfl
@[simp] theorem State.holdReply_generation (d : DecoderState) (r : Reply) (s : State) :
    (s.holdReply d r).generation = s.generation := rfl
@[simp] theorem State.holdReply_seq (d : DecoderState) (r : Reply) (s : State) : (s.holdReply d r).seq = s.seq := rfl
@[simp] theorem State.holdReply_timing (d : DecoderState) (r : Reply) (s : State) :
    (s.holdReply d r).timing = s.timing := rfl
@[simp] theorem State.holdReply_observations (d : DecoderState) (r : Reply) (s : State) :
    (s.holdReply d r).observations = s.observations := rfl
@[simp] theorem State.holdReply_hearing (d : DecoderState) (r : Reply) (s : State) :
    (s.holdReply d r).hearing = s.hearing := rfl
@[simp] theorem State.holdReply_cursor (d : DecoderState) (r : Reply) (s : State) :
    (s.holdReply d r).cursor = s.cursor := rfl
@[simp] theorem State.holdReply_verdicts (d : DecoderState) (r : Reply) (s : State) :
    (s.holdReply d r).verdicts = s.verdicts := rfl
@[simp] theorem State.holdReply_findings (d : DecoderState) (r : Reply) (s : State) :
    (s.holdReply d r).findings = s.findings := rfl
@[simp] theorem State.holdReply_nextSeq (d : DecoderState) (r : Reply) (s : State) :
    (s.holdReply d r).nextSeq = s.nextSeq := rfl
@[simp] theorem State.holdReply_stateSeen (d : DecoderState) (r : Reply) (s : State) :
    (s.holdReply d r).stateSeen = s.stateSeen := rfl
@[simp] theorem State.holdReply_port (d : DecoderState) (r : Reply) (s : State) :
    (s.holdReply d r).port = { s.port with decoder := d, frame := [], reply := some r, bus := .reading } := rfl
@[simp] theorem State.holdReply_lines (d : DecoderState) (r : Reply) (s : State) :
    (s.holdReply d r).lines = s.lines := rfl

-- ==== openWrite ====

@[simp] theorem State.openWrite_pending (s : State) : s.openWrite.pending = s.pending := rfl
@[simp] theorem State.openWrite_links (s : State) : s.openWrite.links = s.links := rfl
@[simp] theorem State.openWrite_classes (s : State) : s.openWrite.classes = s.classes := rfl
@[simp] theorem State.openWrite_slots (s : State) : s.openWrite.slots = s.slots := rfl
@[simp] theorem State.openWrite_windows (s : State) : s.openWrite.windows = s.windows := rfl
@[simp] theorem State.openWrite_generation (s : State) : s.openWrite.generation = s.generation := rfl
@[simp] theorem State.openWrite_seq (s : State) : s.openWrite.seq = s.seq := rfl
@[simp] theorem State.openWrite_timing (s : State) : s.openWrite.timing = s.timing := rfl
@[simp] theorem State.openWrite_observations (s : State) : s.openWrite.observations = s.observations := rfl
@[simp] theorem State.openWrite_hearing (s : State) : s.openWrite.hearing = s.hearing := rfl
@[simp] theorem State.openWrite_cursor (s : State) : s.openWrite.cursor = s.cursor := rfl
@[simp] theorem State.openWrite_verdicts (s : State) : s.openWrite.verdicts = s.verdicts := rfl
@[simp] theorem State.openWrite_findings (s : State) : s.openWrite.findings = s.findings := rfl
@[simp] theorem State.openWrite_nextSeq (s : State) : s.openWrite.nextSeq = s.nextSeq := rfl
@[simp] theorem State.openWrite_stateSeen (s : State) : s.openWrite.stateSeen = s.stateSeen := rfl
@[simp] theorem State.openWrite_port (s : State) :
    s.openWrite.port = { s.port with decoder := .header, frame := [], reply := none, bus := .writing } := rfl
@[simp] theorem State.openWrite_lines (s : State) : s.openWrite.lines = s.lines := rfl

-- ==== keepFrame ====

@[simp] theorem State.keepFrame_pending (d : DecoderState) (l : List Byte) (s : State) :
    (s.keepFrame d l).pending = s.pending := rfl
@[simp] theorem State.keepFrame_links (d : DecoderState) (l : List Byte) (s : State) :
    (s.keepFrame d l).links = s.links := rfl
@[simp] theorem State.keepFrame_classes (d : DecoderState) (l : List Byte) (s : State) :
    (s.keepFrame d l).classes = s.classes := rfl
@[simp] theorem State.keepFrame_slots (d : DecoderState) (l : List Byte) (s : State) :
    (s.keepFrame d l).slots = s.slots := rfl
@[simp] theorem State.keepFrame_windows (d : DecoderState) (l : List Byte) (s : State) :
    (s.keepFrame d l).windows = s.windows := rfl
@[simp] theorem State.keepFrame_generation (d : DecoderState) (l : List Byte) (s : State) :
    (s.keepFrame d l).generation = s.generation := rfl
@[simp] theorem State.keepFrame_seq (d : DecoderState) (l : List Byte) (s : State) :
    (s.keepFrame d l).seq = s.seq := rfl
@[simp] theorem State.keepFrame_timing (d : DecoderState) (l : List Byte) (s : State) :
    (s.keepFrame d l).timing = s.timing := rfl
@[simp] theorem State.keepFrame_observations (d : DecoderState) (l : List Byte) (s : State) :
    (s.keepFrame d l).observations = s.observations := rfl
@[simp] theorem State.keepFrame_hearing (d : DecoderState) (l : List Byte) (s : State) :
    (s.keepFrame d l).hearing = s.hearing := rfl
@[simp] theorem State.keepFrame_cursor (d : DecoderState) (l : List Byte) (s : State) :
    (s.keepFrame d l).cursor = s.cursor := rfl
@[simp] theorem State.keepFrame_verdicts (d : DecoderState) (l : List Byte) (s : State) :
    (s.keepFrame d l).verdicts = s.verdicts := rfl
@[simp] theorem State.keepFrame_findings (d : DecoderState) (l : List Byte) (s : State) :
    (s.keepFrame d l).findings = s.findings := rfl
@[simp] theorem State.keepFrame_nextSeq (d : DecoderState) (l : List Byte) (s : State) :
    (s.keepFrame d l).nextSeq = s.nextSeq := rfl
@[simp] theorem State.keepFrame_stateSeen (d : DecoderState) (l : List Byte) (s : State) :
    (s.keepFrame d l).stateSeen = s.stateSeen := rfl
@[simp] theorem State.keepFrame_port (d : DecoderState) (l : List Byte) (s : State) :
    (s.keepFrame d l).port = { s.port with decoder := d, frame := l } := rfl
@[simp] theorem State.keepFrame_lines (d : DecoderState) (l : List Byte) (s : State) :
    (s.keepFrame d l).lines = { s.lines with ack := .ack } := rfl

-- ==== send ====

@[simp] theorem State.send_pending (b : Byte) (s : State) : (s.send b).pending = s.pending := rfl
@[simp] theorem State.send_links (b : Byte) (s : State) : (s.send b).links = s.links := rfl
@[simp] theorem State.send_classes (b : Byte) (s : State) : (s.send b).classes = s.classes := rfl
@[simp] theorem State.send_slots (b : Byte) (s : State) : (s.send b).slots = s.slots := rfl
@[simp] theorem State.send_windows (b : Byte) (s : State) : (s.send b).windows = s.windows := rfl
@[simp] theorem State.send_generation (b : Byte) (s : State) : (s.send b).generation = s.generation := rfl
@[simp] theorem State.send_seq (b : Byte) (s : State) : (s.send b).seq = s.seq := rfl
@[simp] theorem State.send_timing (b : Byte) (s : State) : (s.send b).timing = s.timing := rfl
@[simp] theorem State.send_observations (b : Byte) (s : State) : (s.send b).observations = s.observations := rfl
@[simp] theorem State.send_hearing (b : Byte) (s : State) : (s.send b).hearing = s.hearing := rfl
@[simp] theorem State.send_cursor (b : Byte) (s : State) : (s.send b).cursor = s.cursor := rfl
@[simp] theorem State.send_verdicts (b : Byte) (s : State) : (s.send b).verdicts = s.verdicts := rfl
@[simp] theorem State.send_findings (b : Byte) (s : State) : (s.send b).findings = s.findings := rfl
@[simp] theorem State.send_nextSeq (b : Byte) (s : State) : (s.send b).nextSeq = s.nextSeq := rfl
@[simp] theorem State.send_stateSeen (b : Byte) (s : State) : (s.send b).stateSeen = s.stateSeen := rfl
@[simp] theorem State.send_port (b : Byte) (s : State) : (s.send b).port = s.port := rfl
@[simp] theorem State.send_lines (b : Byte) (s : State) :
    (s.send b).lines = { s.lines with sent := some { data := b, parity := parityBit b } } := rfl

-- ==== sendReply ====

@[simp] theorem State.sendReply_pending (r : Reply) (m : Bool) (s : State) :
    (s.sendReply r m).pending = s.pending := rfl
@[simp] theorem State.sendReply_links (r : Reply) (m : Bool) (s : State) : (s.sendReply r m).links = s.links := rfl
@[simp] theorem State.sendReply_classes (r : Reply) (m : Bool) (s : State) :
    (s.sendReply r m).classes = s.classes := rfl
@[simp] theorem State.sendReply_slots (r : Reply) (m : Bool) (s : State) : (s.sendReply r m).slots = s.slots := rfl
@[simp] theorem State.sendReply_windows (r : Reply) (m : Bool) (s : State) :
    (s.sendReply r m).windows = s.windows := rfl
@[simp] theorem State.sendReply_generation (r : Reply) (m : Bool) (s : State) :
    (s.sendReply r m).generation = s.generation := rfl
@[simp] theorem State.sendReply_seq (r : Reply) (m : Bool) (s : State) : (s.sendReply r m).seq = s.seq := rfl
@[simp] theorem State.sendReply_timing (r : Reply) (m : Bool) (s : State) : (s.sendReply r m).timing = s.timing := rfl
@[simp] theorem State.sendReply_observations (r : Reply) (m : Bool) (s : State) :
    (s.sendReply r m).observations = s.observations := rfl
@[simp] theorem State.sendReply_hearing (r : Reply) (m : Bool) (s : State) :
    (s.sendReply r m).hearing = s.hearing := rfl
@[simp] theorem State.sendReply_cursor (r : Reply) (m : Bool) (s : State) : (s.sendReply r m).cursor = s.cursor := rfl
@[simp] theorem State.sendReply_verdicts (r : Reply) (m : Bool) (s : State) :
    (s.sendReply r m).verdicts = s.verdicts := rfl
@[simp] theorem State.sendReply_findings (r : Reply) (m : Bool) (s : State) :
    (s.sendReply r m).findings = s.findings := rfl
@[simp] theorem State.sendReply_nextSeq (r : Reply) (m : Bool) (s : State) :
    (s.sendReply r m).nextSeq = s.nextSeq := rfl
@[simp] theorem State.sendReply_stateSeen (r : Reply) (m : Bool) (s : State) :
    (s.sendReply r m).stateSeen = s.stateSeen := rfl
@[simp] theorem State.sendReply_port (r : Reply) (m : Bool) (s : State) :
    (s.sendReply r m).port = { s.port with reply := some r.advance, bus := if m then .reading else .readEnded } := rfl
@[simp] theorem State.sendReply_lines (r : Reply) (m : Bool) (s : State) :
    (s.sendReply r m).lines = { s.lines with sent := some { data := r.current, parity := parityBit r.current } } := rfl

end Sys2Proof.Machine
end

