-- ==== Sys2Proof/Laws/Frames.lean ====
section
/-!
SUPPORT. The frame of each shared operation, said once: it is an update of the fields named, so every other field is
unchanged. Use it as `obtain ⟨q, r, h⟩ := State.armed_frame s; rw [h]`.
-/

namespace Sys2Proof.Machine

theorem State.stopPass_frame (s : State) :
    ∃ c q, s.stopPass =
      { s with cursor := c, seq := q } := by
  unfold State.stopPass; split <;> exact ⟨_, _, rfl⟩

theorem State.ensureQuietCall_frame (s : State) :
    ∃ q r, s.ensureQuietCall =
      { s with seq := q, slots := r } := by
  unfold State.ensureQuietCall; split <;> exact ⟨_, _, rfl⟩

theorem State.abortRunning_frame (a : AbortCause) (s : State) :
    ∃ q r, (s.abortRunning a) =
      { s with seq := q, slots := r } := by
  exact ⟨_, _, rfl⟩

theorem State.abortBeforeSettle_frame (a : AbortCause) (s : State) :
    ∃ q r w n, (s.abortBeforeSettle a) =
      { s with seq := q, slots := r, windows := w, stateSeen := n } := by
  exact ⟨_, _, _, _, rfl⟩

theorem State.abortStopped_frame (a : AbortCause) (s : State) :
    ∃ q r, (s.abortStopped a) =
      { s with seq := q, slots := r } := by
  obtain ⟨q, r, h⟩ := State.ensureQuietCall_frame ((s.closeSweep).setCause a)
  unfold State.abortStopped
  rw [h]
  exact ⟨_, _, rfl⟩

theorem State.abortReduce_frame (a : AbortCause) (s : State) :
    ∃ q c r w n, (s.abortReduce a) =
      { s with seq := q, cursor := c, slots := r, windows := w, stateSeen := n } := by
  obtain ⟨c, q, h⟩ := State.stopPass_frame (s.setCause a)
  unfold State.abortReduce
  rw [h]
  dsimp only
  split <;> exact ⟨_, _, _, _, _, rfl⟩

theorem State.abortSweep_frame (a : AbortCause) (s : State) :
    ∃ q c r w n, (s.abortSweep a) =
      { s with seq := q, cursor := c, slots := r, windows := w, stateSeen := n } := by
  unfold State.abortSweep
  split
  · exact ⟨_, _, _, _, _, rfl⟩
  · exact ⟨_, _, _, _, _, rfl⟩
  · exact ⟨_, _, _, _, _, rfl⟩
  · exact ⟨_, _, _, _, _, rfl⟩
  · obtain ⟨q, r, h⟩ := State.abortStopped_frame a s
    rw [h]
    exact ⟨_, _, _, _, _, rfl⟩
  · obtain ⟨q, r, h⟩ := State.abortStopped_frame a s
    rw [h]
    exact ⟨_, _, _, _, _, rfl⟩
  · exact State.abortReduce_frame a s
  all_goals exact ⟨_, _, _, _, _, rfl⟩

theorem State.allLost_frame (s : State) :
    ∃ q c r w n, s.allLost =
      { s with seq := q, cursor := c, slots := r, windows := w, stateSeen := n } := by
  unfold State.allLost
  split
  · exact State.abortSweep_frame .allLost s
  · exact ⟨_, _, _, _, _, rfl⟩

theorem State.activeFell_frame (s : State) :
    ∃ q c r w n, s.activeFell =
      { s with seq := q, cursor := c, slots := r, windows := w, stateSeen := n } := by
  unfold State.activeFell
  split
  · exact State.allLost_frame s
  · exact ⟨_, _, _, _, _, rfl⟩

theorem State.quietAnswered_frame (s : State) :
    ∃ q r w n, s.quietAnswered =
      { s with seq := q, slots := r, windows := w, stateSeen := n } := by
  unfold State.quietAnswered
  split
  · exact ⟨_, _, _, _, rfl⟩
  · dsimp only
    split
    · exact ⟨_, _, _, _, rfl⟩
    · split <;> exact ⟨_, _, _, _, rfl⟩
    · exact ⟨_, _, _, _, rfl⟩

theorem State.finishPass_frame (s : State) :
    ∃ q c r w n, s.finishPass =
      { s with seq := q, cursor := c, slots := r, windows := w, stateSeen := n } := by
  unfold State.finishPass; dsimp only; split <;> exact ⟨_, _, _, _, _, rfl⟩

theorem State.advance_frame (s : State) :
    ∃ q c r w n, s.advance =
      { s with seq := q, cursor := c, slots := r, windows := w, stateSeen := n } := by
  unfold State.advance
  split
  · split <;> exact ⟨_, _, _, _, _, rfl⟩
  · split
    · exact ⟨_, _, _, _, _, rfl⟩
    · exact State.finishPass_frame s
  · exact ⟨_, _, _, _, _, rfl⟩

theorem State.offer_frame (f : Finding) (s : State) :
    ∃ q c r w n l k, (s.offer f) =
      { s with seq := q, cursor := c, slots := r, windows := w, stateSeen := n, findings := l, nextSeq := k } := by
  unfold State.offer
  split
  · obtain ⟨q, c, r, w, n, h⟩ := State.advance_frame (s.pushFinding f)
    rw [h]
    exact ⟨_, _, _, _, _, _, _, rfl⟩
  · exact ⟨_, _, _, _, _, _, _, rfl⟩

theorem State.pushPending_frame (f : Finding) (s : State) :
    ∃ q c r w n l k, (s.pushPending f) =
      { s with seq := q, cursor := c, slots := r, windows := w, stateSeen := n, findings := l, nextSeq := k } := by
  unfold State.pushPending
  obtain ⟨q, c, r, w, n, h⟩ :=
    State.advance_frame (State.pushFinding f { s with cursor := { s.cursor with pendingFinding := none } })
  rw [h]
  exact ⟨_, _, _, _, _, _, _, rfl⟩

theorem State.armed_frame (s : State) :
    ∃ q r n, s.armed =
      { s with seq := q, slots := r, stateSeen := n } := by
  unfold State.armed; dsimp only; split <;> exact ⟨_, _, _, rfl⟩

theorem State.testArming_frame (s : State) :
    ∃ q r w n, s.testArming =
      { s with seq := q, slots := r, windows := w, stateSeen := n } := by
  unfold State.testArming
  split
  · split
    · obtain ⟨q, r, n, h⟩ := State.armed_frame s
      rw [h]
      exact ⟨_, _, _, _, rfl⟩
    · exact ⟨_, _, _, _, rfl⟩
  · exact ⟨_, _, _, _, rfl⟩

theorem State.endSettle_frame (s : State) :
    ∃ q n, s.endSettle =
      { s with seq := q, stateSeen := n } := by
  unfold State.endSettle; dsimp only; split <;> exact ⟨_, _, rfl⟩

theorem State.testSettle_frame (s : State) :
    ∃ q n, s.testSettle =
      { s with seq := q, stateSeen := n } := by
  unfold State.testSettle
  split
  · exact State.endSettle_frame s
  · exact ⟨_, _, rfl⟩

theorem State.endMeasure_frame (s : State) :
    ∃ q r n, s.endMeasure =
      { s with seq := q, slots := r, stateSeen := n } := by
  unfold State.endMeasure; dsimp only; split <;> exact ⟨_, _, _, rfl⟩

theorem State.testMeasure_frame (s : State) :
    ∃ q r n, s.testMeasure =
      { s with seq := q, slots := r, stateSeen := n } := by
  unfold State.testMeasure
  split
  · exact State.endMeasure_frame s
  · exact ⟨_, _, _, rfl⟩

theorem State.startEvaluation_frame (s : State) :
    ∃ q c, s.startEvaluation =
      { s with seq := q, cursor := c } := by
  unfold State.startEvaluation; dsimp only; split <;> exact ⟨_, _, rfl⟩

theorem State.testReduce_frame (s : State) :
    ∃ q c, s.testReduce =
      { s with seq := q, cursor := c } := by
  unfold State.testReduce
  split
  · exact State.startEvaluation_frame s
  · exact ⟨_, _, rfl⟩

theorem State.testDeadline_frame (x : HaltOrigin) (s : State) :
    ∃ q n, (s.testDeadline x) =
      { s with seq := q, stateSeen := n } := by
  unfold State.testDeadline; split <;> exact ⟨_, _, rfl⟩

theorem State.phaseTest_frame (fell : Bool) (s : State) :
    ∃ q c r w n, (s.phaseTest fell) =
      { s with seq := q, cursor := c, slots := r, windows := w, stateSeen := n } := by
  unfold State.phaseTest
  split
  · obtain ⟨q, r, w, n, h⟩ := State.testArming_frame s
    rw [h]
    exact ⟨_, _, _, _, _, rfl⟩
  · split
    · exact State.allLost_frame s
    · obtain ⟨q, n, h⟩ := State.testSettle_frame s
      rw [h]
      exact ⟨_, _, _, _, _, rfl⟩
  · split
    · exact State.allLost_frame s
    · obtain ⟨q, r, n, h⟩ := State.testMeasure_frame s
      rw [h]
      exact ⟨_, _, _, _, _, rfl⟩
  · obtain ⟨q, c, h⟩ := State.testReduce_frame s
    obtain ⟨q', n, h'⟩ := State.testDeadline_frame .reduce s.testReduce
    rw [h', h]
    exact ⟨_, _, _, _, _, rfl⟩
  · obtain ⟨q, n, h⟩ := State.testDeadline_frame .aborting s
    rw [h]
    exact ⟨_, _, _, _, _, rfl⟩
  all_goals exact ⟨_, _, _, _, _, rfl⟩

theorem State.bookkeep_frame (s : State) :
    ∃ o r, s.bookkeep =
      { s with observations := o, slots := r } := by
  unfold State.bookkeep; split <;> (try split) <;> exact ⟨_, _, rfl⟩

theorem State.marker_frame (s : State) :
    ∃ q c r w n o e, s.marker =
      { s with seq := q, cursor := c, slots := r, windows := w, stateSeen := n, observations := o, lines := e } := by
  unfold State.marker
  obtain ⟨o, r, h⟩ := State.bookkeep_frame s.pulse
  obtain ⟨q, c, r', w, n, h'⟩ := State.phaseTest_frame (0 < s.pulse.activeCount && s.pulse.bookkeep.activeCount == 0)
    s.pulse.bookkeep.emptyWindows
  dsimp only
  rw [h', h]
  exact ⟨_, _, _, _, _, _, _, rfl⟩

theorem State.expire_frame (s : State) :
    ∃ q c r w n o e, s.expire =
      { s with seq := q, cursor := c, slots := r, windows := w, stateSeen := n, observations := o, lines := e } := by
  unfold State.expire
  split
  · exact ⟨_, _, _, _, _, _, _, rfl⟩
  · split
    · exact ⟨_, _, _, _, _, _, _, rfl⟩
    · exact State.marker_frame s

theorem State.hear_frame (rx : Nat) (t : Option Nat) (s : State) :
    ∃ h, (s.hear rx t) =
      { s with hearing := h } := by
  unfold State.hear; split <;> exact ⟨_, rfl⟩

theorem State.applyRecord_frame (m : Bool) (rx : Nat) (x : LaneRecord) (s : State) :
    ∃ o h, (s.applyRecord m rx x) =
      { s with observations := o, hearing := h } := by
  unfold State.applyRecord
  dsimp only
  obtain ⟨h, e⟩ := State.hear_frame rx
    (joins (s.observations.get rx) ((s.observations.get rx).apply s.generation m x))
    { s with observations := s.observations.set rx ((s.observations.get rx).apply s.generation m x) }
  rw [e]
  exact ⟨_, _, rfl⟩

theorem State.applyRecords_frame (m : Bool) (i : Nat) (x : List LaneRecord) (s : State) :
    ∃ o h, (s.applyRecords m i x) =
      { s with observations := o, hearing := h } := by
  induction x generalizing s with
  | nil => exact ⟨_, _, rfl⟩
  | cons y x ih =>
    obtain ⟨o, h, e⟩ := State.applyRecord_frame m (endpoint i y.lane.toNat) y s
    obtain ⟨o', h', e'⟩ := ih (s.applyRecord m (endpoint i y.lane.toNat) y)
    refine ⟨o', h', e'.trans ?_⟩
    rw [e]

theorem State.takeReport_frame (i m g : Nat) (x : List LaneRecord) (s : State) :
    ∃ w o h, (s.takeReport i m g x) =
      { s with windows := w, observations := o, hearing := h } := by
  unfold State.takeReport
  obtain ⟨o, h, e⟩ := State.applyRecords_frame (s.seq.phaseOf m == .measure) i x
    { s with windows := s.windows.set i ((s.windows.get i).take g x) }
  rw [e]
  exact ⟨_, _, _, rfl⟩

theorem State.leaveHalt_frame (x : HaltOrigin) (s : State) :
    ∃ q r w n, (s.leaveHalt x) =
      { s with seq := q, slots := r, windows := w, stateSeen := n } := by
  unfold State.leaveHalt
  split
  · exact ⟨_, _, _, _, rfl⟩
  · split <;> exact ⟨_, _, _, _, rfl⟩

theorem State.stepLink_frame (i : Nat) (x : Link) (s : State) :
    ∃ q c r w n l k v, (s.stepLink i x) =
      { s with seq := q, cursor := c, slots := r, windows := w, stateSeen := n,
               findings := l, nextSeq := k, verdicts := v } := by
  unfold State.stepLink
  dsimp only
  split
  · obtain ⟨q, c, r, w, n, h⟩ := State.advance_frame (s.writeVerdict i (s.evaluate x))
    rw [h]
    exact ⟨_, _, _, _, _, _, _, _, rfl⟩
  · obtain ⟨q, c, r, w, n, l, k, h⟩ :=
      State.offer_frame (s.linkFinding i x (s.evaluate x)) (s.writeVerdict i (s.evaluate x))
    rw [h]
    exact ⟨_, _, _, _, _, _, _, _, rfl⟩

theorem State.stepUnplanned_frame (rx : Nat) (s : State) :
    ∃ q c r w n l k, (s.stepUnplanned rx) =
      { s with seq := q, cursor := c, slots := r, windows := w, stateSeen := n, findings := l, nextSeq := k } := by
  unfold State.stepUnplanned
  dsimp only
  split
  · exact State.offer_frame _ s
  · obtain ⟨q, c, r, w, n, h⟩ := State.advance_frame s
    rw [h]
    exact ⟨_, _, _, _, _, _, _, rfl⟩

end Sys2Proof.Machine
end

