-- ==== Sys2Proof/Laws/Kept.lean ====
section
/-!
SUPPORT. What the larger shared operations keep, field by field, read off their frames.
-/

namespace Sys2Proof.Machine

@[simp] theorem State.stopPass_links (s : State) : s.stopPass.links = s.links := by
  obtain ⟨_, _, h⟩ := State.stopPass_frame s
  rw [h]

@[simp] theorem State.stopPass_classes (s : State) : s.stopPass.classes = s.classes := by
  obtain ⟨_, _, h⟩ := State.stopPass_frame s
  rw [h]

@[simp] theorem State.stopPass_slots (s : State) : s.stopPass.slots = s.slots := by
  obtain ⟨_, _, h⟩ := State.stopPass_frame s
  rw [h]

@[simp] theorem State.stopPass_windows (s : State) : s.stopPass.windows = s.windows := by
  obtain ⟨_, _, h⟩ := State.stopPass_frame s
  rw [h]

@[simp] theorem State.stopPass_generation (s : State) : s.stopPass.generation = s.generation := by
  obtain ⟨_, _, h⟩ := State.stopPass_frame s
  rw [h]

@[simp] theorem State.stopPass_timing (s : State) : s.stopPass.timing = s.timing := by
  obtain ⟨_, _, h⟩ := State.stopPass_frame s
  rw [h]

@[simp] theorem State.stopPass_observations (s : State) : s.stopPass.observations = s.observations := by
  obtain ⟨_, _, h⟩ := State.stopPass_frame s
  rw [h]

@[simp] theorem State.stopPass_hearing (s : State) : s.stopPass.hearing = s.hearing := by
  obtain ⟨_, _, h⟩ := State.stopPass_frame s
  rw [h]

@[simp] theorem State.stopPass_verdicts (s : State) : s.stopPass.verdicts = s.verdicts := by
  obtain ⟨_, _, h⟩ := State.stopPass_frame s
  rw [h]

@[simp] theorem State.stopPass_findings (s : State) : s.stopPass.findings = s.findings := by
  obtain ⟨_, _, h⟩ := State.stopPass_frame s
  rw [h]

@[simp] theorem State.stopPass_nextSeq (s : State) : s.stopPass.nextSeq = s.nextSeq := by
  obtain ⟨_, _, h⟩ := State.stopPass_frame s
  rw [h]

@[simp] theorem State.stopPass_stateSeen (s : State) : s.stopPass.stateSeen = s.stateSeen := by
  obtain ⟨_, _, h⟩ := State.stopPass_frame s
  rw [h]

@[simp] theorem State.stopPass_port (s : State) : s.stopPass.port = s.port := by
  obtain ⟨_, _, h⟩ := State.stopPass_frame s
  rw [h]

@[simp] theorem State.stopPass_lines (s : State) : s.stopPass.lines = s.lines := by
  obtain ⟨_, _, h⟩ := State.stopPass_frame s
  rw [h]

@[simp] theorem State.stopPass_pending (s : State) : s.stopPass.pending = s.pending := by
  obtain ⟨_, _, h⟩ := State.stopPass_frame s
  rw [h]

@[simp] theorem State.finishPass_links (s : State) : s.finishPass.links = s.links := by
  obtain ⟨_, _, _, _, _, h⟩ := State.finishPass_frame s
  rw [h]

@[simp] theorem State.finishPass_classes (s : State) : s.finishPass.classes = s.classes := by
  obtain ⟨_, _, _, _, _, h⟩ := State.finishPass_frame s
  rw [h]

@[simp] theorem State.finishPass_generation (s : State) : s.finishPass.generation = s.generation := by
  obtain ⟨_, _, _, _, _, h⟩ := State.finishPass_frame s
  rw [h]

@[simp] theorem State.finishPass_timing (s : State) : s.finishPass.timing = s.timing := by
  obtain ⟨_, _, _, _, _, h⟩ := State.finishPass_frame s
  rw [h]

@[simp] theorem State.finishPass_observations (s : State) : s.finishPass.observations = s.observations := by
  obtain ⟨_, _, _, _, _, h⟩ := State.finishPass_frame s
  rw [h]

@[simp] theorem State.finishPass_hearing (s : State) : s.finishPass.hearing = s.hearing := by
  obtain ⟨_, _, _, _, _, h⟩ := State.finishPass_frame s
  rw [h]

@[simp] theorem State.finishPass_verdicts (s : State) : s.finishPass.verdicts = s.verdicts := by
  obtain ⟨_, _, _, _, _, h⟩ := State.finishPass_frame s
  rw [h]

@[simp] theorem State.finishPass_findings (s : State) : s.finishPass.findings = s.findings := by
  obtain ⟨_, _, _, _, _, h⟩ := State.finishPass_frame s
  rw [h]

@[simp] theorem State.finishPass_nextSeq (s : State) : s.finishPass.nextSeq = s.nextSeq := by
  obtain ⟨_, _, _, _, _, h⟩ := State.finishPass_frame s
  rw [h]

@[simp] theorem State.finishPass_port (s : State) : s.finishPass.port = s.port := by
  obtain ⟨_, _, _, _, _, h⟩ := State.finishPass_frame s
  rw [h]

@[simp] theorem State.finishPass_lines (s : State) : s.finishPass.lines = s.lines := by
  obtain ⟨_, _, _, _, _, h⟩ := State.finishPass_frame s
  rw [h]

@[simp] theorem State.finishPass_pending (s : State) : s.finishPass.pending = s.pending := by
  obtain ⟨_, _, _, _, _, h⟩ := State.finishPass_frame s
  rw [h]

@[simp] theorem State.advance_links (s : State) : s.advance.links = s.links := by
  obtain ⟨_, _, _, _, _, h⟩ := State.advance_frame s
  rw [h]

@[simp] theorem State.advance_classes (s : State) : s.advance.classes = s.classes := by
  obtain ⟨_, _, _, _, _, h⟩ := State.advance_frame s
  rw [h]

@[simp] theorem State.advance_generation (s : State) : s.advance.generation = s.generation := by
  obtain ⟨_, _, _, _, _, h⟩ := State.advance_frame s
  rw [h]

@[simp] theorem State.advance_timing (s : State) : s.advance.timing = s.timing := by
  obtain ⟨_, _, _, _, _, h⟩ := State.advance_frame s
  rw [h]

@[simp] theorem State.advance_observations (s : State) : s.advance.observations = s.observations := by
  obtain ⟨_, _, _, _, _, h⟩ := State.advance_frame s
  rw [h]

@[simp] theorem State.advance_hearing (s : State) : s.advance.hearing = s.hearing := by
  obtain ⟨_, _, _, _, _, h⟩ := State.advance_frame s
  rw [h]

@[simp] theorem State.advance_verdicts (s : State) : s.advance.verdicts = s.verdicts := by
  obtain ⟨_, _, _, _, _, h⟩ := State.advance_frame s
  rw [h]

@[simp] theorem State.advance_findings (s : State) : s.advance.findings = s.findings := by
  obtain ⟨_, _, _, _, _, h⟩ := State.advance_frame s
  rw [h]

@[simp] theorem State.advance_nextSeq (s : State) : s.advance.nextSeq = s.nextSeq := by
  obtain ⟨_, _, _, _, _, h⟩ := State.advance_frame s
  rw [h]

@[simp] theorem State.advance_port (s : State) : s.advance.port = s.port := by
  obtain ⟨_, _, _, _, _, h⟩ := State.advance_frame s
  rw [h]

@[simp] theorem State.advance_lines (s : State) : s.advance.lines = s.lines := by
  obtain ⟨_, _, _, _, _, h⟩ := State.advance_frame s
  rw [h]

@[simp] theorem State.advance_pending (s : State) : s.advance.pending = s.pending := by
  obtain ⟨_, _, _, _, _, h⟩ := State.advance_frame s
  rw [h]

@[simp] theorem State.offer_links (f : Finding) (s : State) : (State.offer f s).links = s.links := by
  obtain ⟨_, _, _, _, _, _, _, h⟩ := State.offer_frame f s
  rw [h]

@[simp] theorem State.offer_classes (f : Finding) (s : State) : (State.offer f s).classes = s.classes := by
  obtain ⟨_, _, _, _, _, _, _, h⟩ := State.offer_frame f s
  rw [h]

@[simp] theorem State.offer_generation (f : Finding) (s : State) : (State.offer f s).generation = s.generation := by
  obtain ⟨_, _, _, _, _, _, _, h⟩ := State.offer_frame f s
  rw [h]

@[simp] theorem State.offer_timing (f : Finding) (s : State) : (State.offer f s).timing = s.timing := by
  obtain ⟨_, _, _, _, _, _, _, h⟩ := State.offer_frame f s
  rw [h]

@[simp] theorem State.offer_observations (f : Finding) (s : State) : (State.offer f s).observations = s.observations := by
  obtain ⟨_, _, _, _, _, _, _, h⟩ := State.offer_frame f s
  rw [h]

@[simp] theorem State.offer_hearing (f : Finding) (s : State) : (State.offer f s).hearing = s.hearing := by
  obtain ⟨_, _, _, _, _, _, _, h⟩ := State.offer_frame f s
  rw [h]

@[simp] theorem State.offer_verdicts (f : Finding) (s : State) : (State.offer f s).verdicts = s.verdicts := by
  obtain ⟨_, _, _, _, _, _, _, h⟩ := State.offer_frame f s
  rw [h]

@[simp] theorem State.offer_port (f : Finding) (s : State) : (State.offer f s).port = s.port := by
  obtain ⟨_, _, _, _, _, _, _, h⟩ := State.offer_frame f s
  rw [h]

@[simp] theorem State.offer_lines (f : Finding) (s : State) : (State.offer f s).lines = s.lines := by
  obtain ⟨_, _, _, _, _, _, _, h⟩ := State.offer_frame f s
  rw [h]

@[simp] theorem State.offer_pending (f : Finding) (s : State) : (State.offer f s).pending = s.pending := by
  obtain ⟨_, _, _, _, _, _, _, h⟩ := State.offer_frame f s
  rw [h]

@[simp] theorem State.pushPending_links (f : Finding) (s : State) : (State.pushPending f s).links = s.links := by
  obtain ⟨_, _, _, _, _, _, _, h⟩ := State.pushPending_frame f s
  rw [h]

@[simp] theorem State.pushPending_classes (f : Finding) (s : State) : (State.pushPending f s).classes = s.classes := by
  obtain ⟨_, _, _, _, _, _, _, h⟩ := State.pushPending_frame f s
  rw [h]

@[simp] theorem State.pushPending_generation (f : Finding) (s : State) : (State.pushPending f s).generation = s.generation := by
  obtain ⟨_, _, _, _, _, _, _, h⟩ := State.pushPending_frame f s
  rw [h]

@[simp] theorem State.pushPending_timing (f : Finding) (s : State) : (State.pushPending f s).timing = s.timing := by
  obtain ⟨_, _, _, _, _, _, _, h⟩ := State.pushPending_frame f s
  rw [h]

@[simp] theorem State.pushPending_observations (f : Finding) (s : State) : (State.pushPending f s).observations = s.observations := by
  obtain ⟨_, _, _, _, _, _, _, h⟩ := State.pushPending_frame f s
  rw [h]

@[simp] theorem State.pushPending_hearing (f : Finding) (s : State) : (State.pushPending f s).hearing = s.hearing := by
  obtain ⟨_, _, _, _, _, _, _, h⟩ := State.pushPending_frame f s
  rw [h]

@[simp] theorem State.pushPending_verdicts (f : Finding) (s : State) : (State.pushPending f s).verdicts = s.verdicts := by
  obtain ⟨_, _, _, _, _, _, _, h⟩ := State.pushPending_frame f s
  rw [h]

@[simp] theorem State.pushPending_port (f : Finding) (s : State) : (State.pushPending f s).port = s.port := by
  obtain ⟨_, _, _, _, _, _, _, h⟩ := State.pushPending_frame f s
  rw [h]

@[simp] theorem State.pushPending_lines (f : Finding) (s : State) : (State.pushPending f s).lines = s.lines := by
  obtain ⟨_, _, _, _, _, _, _, h⟩ := State.pushPending_frame f s
  rw [h]

@[simp] theorem State.pushPending_pending (f : Finding) (s : State) : (State.pushPending f s).pending = s.pending := by
  obtain ⟨_, _, _, _, _, _, _, h⟩ := State.pushPending_frame f s
  rw [h]

@[simp] theorem State.abortSweep_links (a : AbortCause) (s : State) : (State.abortSweep a s).links = s.links := by
  obtain ⟨_, _, _, _, _, h⟩ := State.abortSweep_frame a s
  rw [h]

@[simp] theorem State.abortSweep_classes (a : AbortCause) (s : State) : (State.abortSweep a s).classes = s.classes := by
  obtain ⟨_, _, _, _, _, h⟩ := State.abortSweep_frame a s
  rw [h]

@[simp] theorem State.abortSweep_generation (a : AbortCause) (s : State) : (State.abortSweep a s).generation = s.generation := by
  obtain ⟨_, _, _, _, _, h⟩ := State.abortSweep_frame a s
  rw [h]

@[simp] theorem State.abortSweep_timing (a : AbortCause) (s : State) : (State.abortSweep a s).timing = s.timing := by
  obtain ⟨_, _, _, _, _, h⟩ := State.abortSweep_frame a s
  rw [h]

@[simp] theorem State.abortSweep_observations (a : AbortCause) (s : State) : (State.abortSweep a s).observations = s.observations := by
  obtain ⟨_, _, _, _, _, h⟩ := State.abortSweep_frame a s
  rw [h]

@[simp] theorem State.abortSweep_hearing (a : AbortCause) (s : State) : (State.abortSweep a s).hearing = s.hearing := by
  obtain ⟨_, _, _, _, _, h⟩ := State.abortSweep_frame a s
  rw [h]

@[simp] theorem State.abortSweep_verdicts (a : AbortCause) (s : State) : (State.abortSweep a s).verdicts = s.verdicts := by
  obtain ⟨_, _, _, _, _, h⟩ := State.abortSweep_frame a s
  rw [h]

@[simp] theorem State.abortSweep_findings (a : AbortCause) (s : State) : (State.abortSweep a s).findings = s.findings := by
  obtain ⟨_, _, _, _, _, h⟩ := State.abortSweep_frame a s
  rw [h]

@[simp] theorem State.abortSweep_nextSeq (a : AbortCause) (s : State) : (State.abortSweep a s).nextSeq = s.nextSeq := by
  obtain ⟨_, _, _, _, _, h⟩ := State.abortSweep_frame a s
  rw [h]

@[simp] theorem State.abortSweep_port (a : AbortCause) (s : State) : (State.abortSweep a s).port = s.port := by
  obtain ⟨_, _, _, _, _, h⟩ := State.abortSweep_frame a s
  rw [h]

@[simp] theorem State.abortSweep_lines (a : AbortCause) (s : State) : (State.abortSweep a s).lines = s.lines := by
  obtain ⟨_, _, _, _, _, h⟩ := State.abortSweep_frame a s
  rw [h]

@[simp] theorem State.abortSweep_pending (a : AbortCause) (s : State) : (State.abortSweep a s).pending = s.pending := by
  obtain ⟨_, _, _, _, _, h⟩ := State.abortSweep_frame a s
  rw [h]

@[simp] theorem State.allLost_links (s : State) : s.allLost.links = s.links := by
  obtain ⟨_, _, _, _, _, h⟩ := State.allLost_frame s
  rw [h]

@[simp] theorem State.allLost_classes (s : State) : s.allLost.classes = s.classes := by
  obtain ⟨_, _, _, _, _, h⟩ := State.allLost_frame s
  rw [h]

@[simp] theorem State.allLost_generation (s : State) : s.allLost.generation = s.generation := by
  obtain ⟨_, _, _, _, _, h⟩ := State.allLost_frame s
  rw [h]

@[simp] theorem State.allLost_timing (s : State) : s.allLost.timing = s.timing := by
  obtain ⟨_, _, _, _, _, h⟩ := State.allLost_frame s
  rw [h]

@[simp] theorem State.allLost_observations (s : State) : s.allLost.observations = s.observations := by
  obtain ⟨_, _, _, _, _, h⟩ := State.allLost_frame s
  rw [h]

@[simp] theorem State.allLost_hearing (s : State) : s.allLost.hearing = s.hearing := by
  obtain ⟨_, _, _, _, _, h⟩ := State.allLost_frame s
  rw [h]

@[simp] theorem State.allLost_verdicts (s : State) : s.allLost.verdicts = s.verdicts := by
  obtain ⟨_, _, _, _, _, h⟩ := State.allLost_frame s
  rw [h]

@[simp] theorem State.allLost_findings (s : State) : s.allLost.findings = s.findings := by
  obtain ⟨_, _, _, _, _, h⟩ := State.allLost_frame s
  rw [h]

@[simp] theorem State.allLost_nextSeq (s : State) : s.allLost.nextSeq = s.nextSeq := by
  obtain ⟨_, _, _, _, _, h⟩ := State.allLost_frame s
  rw [h]

@[simp] theorem State.allLost_port (s : State) : s.allLost.port = s.port := by
  obtain ⟨_, _, _, _, _, h⟩ := State.allLost_frame s
  rw [h]

@[simp] theorem State.allLost_lines (s : State) : s.allLost.lines = s.lines := by
  obtain ⟨_, _, _, _, _, h⟩ := State.allLost_frame s
  rw [h]

@[simp] theorem State.allLost_pending (s : State) : s.allLost.pending = s.pending := by
  obtain ⟨_, _, _, _, _, h⟩ := State.allLost_frame s
  rw [h]

@[simp] theorem State.activeFell_links (s : State) : s.activeFell.links = s.links := by
  obtain ⟨_, _, _, _, _, h⟩ := State.activeFell_frame s
  rw [h]

@[simp] theorem State.activeFell_classes (s : State) : s.activeFell.classes = s.classes := by
  obtain ⟨_, _, _, _, _, h⟩ := State.activeFell_frame s
  rw [h]

@[simp] theorem State.activeFell_generation (s : State) : s.activeFell.generation = s.generation := by
  obtain ⟨_, _, _, _, _, h⟩ := State.activeFell_frame s
  rw [h]

@[simp] theorem State.activeFell_timing (s : State) : s.activeFell.timing = s.timing := by
  obtain ⟨_, _, _, _, _, h⟩ := State.activeFell_frame s
  rw [h]

@[simp] theorem State.activeFell_observations (s : State) : s.activeFell.observations = s.observations := by
  obtain ⟨_, _, _, _, _, h⟩ := State.activeFell_frame s
  rw [h]

@[simp] theorem State.activeFell_hearing (s : State) : s.activeFell.hearing = s.hearing := by
  obtain ⟨_, _, _, _, _, h⟩ := State.activeFell_frame s
  rw [h]

@[simp] theorem State.activeFell_verdicts (s : State) : s.activeFell.verdicts = s.verdicts := by
  obtain ⟨_, _, _, _, _, h⟩ := State.activeFell_frame s
  rw [h]

@[simp] theorem State.activeFell_findings (s : State) : s.activeFell.findings = s.findings := by
  obtain ⟨_, _, _, _, _, h⟩ := State.activeFell_frame s
  rw [h]

@[simp] theorem State.activeFell_nextSeq (s : State) : s.activeFell.nextSeq = s.nextSeq := by
  obtain ⟨_, _, _, _, _, h⟩ := State.activeFell_frame s
  rw [h]

@[simp] theorem State.activeFell_port (s : State) : s.activeFell.port = s.port := by
  obtain ⟨_, _, _, _, _, h⟩ := State.activeFell_frame s
  rw [h]

@[simp] theorem State.activeFell_lines (s : State) : s.activeFell.lines = s.lines := by
  obtain ⟨_, _, _, _, _, h⟩ := State.activeFell_frame s
  rw [h]

@[simp] theorem State.activeFell_pending (s : State) : s.activeFell.pending = s.pending := by
  obtain ⟨_, _, _, _, _, h⟩ := State.activeFell_frame s
  rw [h]

@[simp] theorem State.quietAnswered_links (s : State) : s.quietAnswered.links = s.links := by
  obtain ⟨_, _, _, _, h⟩ := State.quietAnswered_frame s
  rw [h]

@[simp] theorem State.quietAnswered_classes (s : State) : s.quietAnswered.classes = s.classes := by
  obtain ⟨_, _, _, _, h⟩ := State.quietAnswered_frame s
  rw [h]

@[simp] theorem State.quietAnswered_generation (s : State) : s.quietAnswered.generation = s.generation := by
  obtain ⟨_, _, _, _, h⟩ := State.quietAnswered_frame s
  rw [h]

@[simp] theorem State.quietAnswered_timing (s : State) : s.quietAnswered.timing = s.timing := by
  obtain ⟨_, _, _, _, h⟩ := State.quietAnswered_frame s
  rw [h]

@[simp] theorem State.quietAnswered_observations (s : State) : s.quietAnswered.observations = s.observations := by
  obtain ⟨_, _, _, _, h⟩ := State.quietAnswered_frame s
  rw [h]

@[simp] theorem State.quietAnswered_hearing (s : State) : s.quietAnswered.hearing = s.hearing := by
  obtain ⟨_, _, _, _, h⟩ := State.quietAnswered_frame s
  rw [h]

@[simp] theorem State.quietAnswered_cursor (s : State) : s.quietAnswered.cursor = s.cursor := by
  obtain ⟨_, _, _, _, h⟩ := State.quietAnswered_frame s
  rw [h]

@[simp] theorem State.quietAnswered_verdicts (s : State) : s.quietAnswered.verdicts = s.verdicts := by
  obtain ⟨_, _, _, _, h⟩ := State.quietAnswered_frame s
  rw [h]

@[simp] theorem State.quietAnswered_findings (s : State) : s.quietAnswered.findings = s.findings := by
  obtain ⟨_, _, _, _, h⟩ := State.quietAnswered_frame s
  rw [h]

@[simp] theorem State.quietAnswered_nextSeq (s : State) : s.quietAnswered.nextSeq = s.nextSeq := by
  obtain ⟨_, _, _, _, h⟩ := State.quietAnswered_frame s
  rw [h]

@[simp] theorem State.quietAnswered_port (s : State) : s.quietAnswered.port = s.port := by
  obtain ⟨_, _, _, _, h⟩ := State.quietAnswered_frame s
  rw [h]

@[simp] theorem State.quietAnswered_lines (s : State) : s.quietAnswered.lines = s.lines := by
  obtain ⟨_, _, _, _, h⟩ := State.quietAnswered_frame s
  rw [h]

@[simp] theorem State.quietAnswered_pending (s : State) : s.quietAnswered.pending = s.pending := by
  obtain ⟨_, _, _, _, h⟩ := State.quietAnswered_frame s
  rw [h]

@[simp] theorem State.leaveHalt_links (x : HaltOrigin) (s : State) : (State.leaveHalt x s).links = s.links := by
  obtain ⟨_, _, _, _, h⟩ := State.leaveHalt_frame x s
  rw [h]

@[simp] theorem State.leaveHalt_classes (x : HaltOrigin) (s : State) : (State.leaveHalt x s).classes = s.classes := by
  obtain ⟨_, _, _, _, h⟩ := State.leaveHalt_frame x s
  rw [h]

@[simp] theorem State.leaveHalt_generation (x : HaltOrigin) (s : State) : (State.leaveHalt x s).generation = s.generation := by
  obtain ⟨_, _, _, _, h⟩ := State.leaveHalt_frame x s
  rw [h]

@[simp] theorem State.leaveHalt_timing (x : HaltOrigin) (s : State) : (State.leaveHalt x s).timing = s.timing := by
  obtain ⟨_, _, _, _, h⟩ := State.leaveHalt_frame x s
  rw [h]

@[simp] theorem State.leaveHalt_observations (x : HaltOrigin) (s : State) : (State.leaveHalt x s).observations = s.observations := by
  obtain ⟨_, _, _, _, h⟩ := State.leaveHalt_frame x s
  rw [h]

@[simp] theorem State.leaveHalt_hearing (x : HaltOrigin) (s : State) : (State.leaveHalt x s).hearing = s.hearing := by
  obtain ⟨_, _, _, _, h⟩ := State.leaveHalt_frame x s
  rw [h]

@[simp] theorem State.leaveHalt_cursor (x : HaltOrigin) (s : State) : (State.leaveHalt x s).cursor = s.cursor := by
  obtain ⟨_, _, _, _, h⟩ := State.leaveHalt_frame x s
  rw [h]

@[simp] theorem State.leaveHalt_verdicts (x : HaltOrigin) (s : State) : (State.leaveHalt x s).verdicts = s.verdicts := by
  obtain ⟨_, _, _, _, h⟩ := State.leaveHalt_frame x s
  rw [h]

@[simp] theorem State.leaveHalt_findings (x : HaltOrigin) (s : State) : (State.leaveHalt x s).findings = s.findings := by
  obtain ⟨_, _, _, _, h⟩ := State.leaveHalt_frame x s
  rw [h]

@[simp] theorem State.leaveHalt_nextSeq (x : HaltOrigin) (s : State) : (State.leaveHalt x s).nextSeq = s.nextSeq := by
  obtain ⟨_, _, _, _, h⟩ := State.leaveHalt_frame x s
  rw [h]

@[simp] theorem State.leaveHalt_port (x : HaltOrigin) (s : State) : (State.leaveHalt x s).port = s.port := by
  obtain ⟨_, _, _, _, h⟩ := State.leaveHalt_frame x s
  rw [h]

@[simp] theorem State.leaveHalt_lines (x : HaltOrigin) (s : State) : (State.leaveHalt x s).lines = s.lines := by
  obtain ⟨_, _, _, _, h⟩ := State.leaveHalt_frame x s
  rw [h]

@[simp] theorem State.leaveHalt_pending (x : HaltOrigin) (s : State) : (State.leaveHalt x s).pending = s.pending := by
  obtain ⟨_, _, _, _, h⟩ := State.leaveHalt_frame x s
  rw [h]

@[simp] theorem State.phaseTest_links (b : Bool) (s : State) : (State.phaseTest b s).links = s.links := by
  obtain ⟨_, _, _, _, _, h⟩ := State.phaseTest_frame b s
  rw [h]

@[simp] theorem State.phaseTest_classes (b : Bool) (s : State) : (State.phaseTest b s).classes = s.classes := by
  obtain ⟨_, _, _, _, _, h⟩ := State.phaseTest_frame b s
  rw [h]

@[simp] theorem State.phaseTest_generation (b : Bool) (s : State) : (State.phaseTest b s).generation = s.generation := by
  obtain ⟨_, _, _, _, _, h⟩ := State.phaseTest_frame b s
  rw [h]

@[simp] theorem State.phaseTest_timing (b : Bool) (s : State) : (State.phaseTest b s).timing = s.timing := by
  obtain ⟨_, _, _, _, _, h⟩ := State.phaseTest_frame b s
  rw [h]

@[simp] theorem State.phaseTest_observations (b : Bool) (s : State) : (State.phaseTest b s).observations = s.observations := by
  obtain ⟨_, _, _, _, _, h⟩ := State.phaseTest_frame b s
  rw [h]

@[simp] theorem State.phaseTest_hearing (b : Bool) (s : State) : (State.phaseTest b s).hearing = s.hearing := by
  obtain ⟨_, _, _, _, _, h⟩ := State.phaseTest_frame b s
  rw [h]

@[simp] theorem State.phaseTest_verdicts (b : Bool) (s : State) : (State.phaseTest b s).verdicts = s.verdicts := by
  obtain ⟨_, _, _, _, _, h⟩ := State.phaseTest_frame b s
  rw [h]

@[simp] theorem State.phaseTest_findings (b : Bool) (s : State) : (State.phaseTest b s).findings = s.findings := by
  obtain ⟨_, _, _, _, _, h⟩ := State.phaseTest_frame b s
  rw [h]

@[simp] theorem State.phaseTest_nextSeq (b : Bool) (s : State) : (State.phaseTest b s).nextSeq = s.nextSeq := by
  obtain ⟨_, _, _, _, _, h⟩ := State.phaseTest_frame b s
  rw [h]

@[simp] theorem State.phaseTest_port (b : Bool) (s : State) : (State.phaseTest b s).port = s.port := by
  obtain ⟨_, _, _, _, _, h⟩ := State.phaseTest_frame b s
  rw [h]

@[simp] theorem State.phaseTest_lines (b : Bool) (s : State) : (State.phaseTest b s).lines = s.lines := by
  obtain ⟨_, _, _, _, _, h⟩ := State.phaseTest_frame b s
  rw [h]

@[simp] theorem State.phaseTest_pending (b : Bool) (s : State) : (State.phaseTest b s).pending = s.pending := by
  obtain ⟨_, _, _, _, _, h⟩ := State.phaseTest_frame b s
  rw [h]

@[simp] theorem State.bookkeep_links (s : State) : s.bookkeep.links = s.links := by
  obtain ⟨_, _, h⟩ := State.bookkeep_frame s
  rw [h]

@[simp] theorem State.bookkeep_classes (s : State) : s.bookkeep.classes = s.classes := by
  obtain ⟨_, _, h⟩ := State.bookkeep_frame s
  rw [h]

@[simp] theorem State.bookkeep_windows (s : State) : s.bookkeep.windows = s.windows := by
  obtain ⟨_, _, h⟩ := State.bookkeep_frame s
  rw [h]

@[simp] theorem State.bookkeep_generation (s : State) : s.bookkeep.generation = s.generation := by
  obtain ⟨_, _, h⟩ := State.bookkeep_frame s
  rw [h]

@[simp] theorem State.bookkeep_seq (s : State) : s.bookkeep.seq = s.seq := by
  obtain ⟨_, _, h⟩ := State.bookkeep_frame s
  rw [h]

@[simp] theorem State.bookkeep_timing (s : State) : s.bookkeep.timing = s.timing := by
  obtain ⟨_, _, h⟩ := State.bookkeep_frame s
  rw [h]

@[simp] theorem State.bookkeep_hearing (s : State) : s.bookkeep.hearing = s.hearing := by
  obtain ⟨_, _, h⟩ := State.bookkeep_frame s
  rw [h]

@[simp] theorem State.bookkeep_cursor (s : State) : s.bookkeep.cursor = s.cursor := by
  obtain ⟨_, _, h⟩ := State.bookkeep_frame s
  rw [h]

@[simp] theorem State.bookkeep_verdicts (s : State) : s.bookkeep.verdicts = s.verdicts := by
  obtain ⟨_, _, h⟩ := State.bookkeep_frame s
  rw [h]

@[simp] theorem State.bookkeep_findings (s : State) : s.bookkeep.findings = s.findings := by
  obtain ⟨_, _, h⟩ := State.bookkeep_frame s
  rw [h]

@[simp] theorem State.bookkeep_nextSeq (s : State) : s.bookkeep.nextSeq = s.nextSeq := by
  obtain ⟨_, _, h⟩ := State.bookkeep_frame s
  rw [h]

@[simp] theorem State.bookkeep_stateSeen (s : State) : s.bookkeep.stateSeen = s.stateSeen := by
  obtain ⟨_, _, h⟩ := State.bookkeep_frame s
  rw [h]

@[simp] theorem State.bookkeep_port (s : State) : s.bookkeep.port = s.port := by
  obtain ⟨_, _, h⟩ := State.bookkeep_frame s
  rw [h]

@[simp] theorem State.bookkeep_lines (s : State) : s.bookkeep.lines = s.lines := by
  obtain ⟨_, _, h⟩ := State.bookkeep_frame s
  rw [h]

@[simp] theorem State.bookkeep_pending (s : State) : s.bookkeep.pending = s.pending := by
  obtain ⟨_, _, h⟩ := State.bookkeep_frame s
  rw [h]

@[simp] theorem State.expire_links (s : State) : s.expire.links = s.links := by
  obtain ⟨_, _, _, _, _, _, _, h⟩ := State.expire_frame s
  rw [h]

@[simp] theorem State.expire_classes (s : State) : s.expire.classes = s.classes := by
  obtain ⟨_, _, _, _, _, _, _, h⟩ := State.expire_frame s
  rw [h]

@[simp] theorem State.expire_generation (s : State) : s.expire.generation = s.generation := by
  obtain ⟨_, _, _, _, _, _, _, h⟩ := State.expire_frame s
  rw [h]

@[simp] theorem State.expire_timing (s : State) : s.expire.timing = s.timing := by
  obtain ⟨_, _, _, _, _, _, _, h⟩ := State.expire_frame s
  rw [h]

@[simp] theorem State.expire_hearing (s : State) : s.expire.hearing = s.hearing := by
  obtain ⟨_, _, _, _, _, _, _, h⟩ := State.expire_frame s
  rw [h]

@[simp] theorem State.expire_verdicts (s : State) : s.expire.verdicts = s.verdicts := by
  obtain ⟨_, _, _, _, _, _, _, h⟩ := State.expire_frame s
  rw [h]

@[simp] theorem State.expire_findings (s : State) : s.expire.findings = s.findings := by
  obtain ⟨_, _, _, _, _, _, _, h⟩ := State.expire_frame s
  rw [h]

@[simp] theorem State.expire_nextSeq (s : State) : s.expire.nextSeq = s.nextSeq := by
  obtain ⟨_, _, _, _, _, _, _, h⟩ := State.expire_frame s
  rw [h]

@[simp] theorem State.expire_port (s : State) : s.expire.port = s.port := by
  obtain ⟨_, _, _, _, _, _, _, h⟩ := State.expire_frame s
  rw [h]

@[simp] theorem State.expire_pending (s : State) : s.expire.pending = s.pending := by
  obtain ⟨_, _, _, _, _, _, _, h⟩ := State.expire_frame s
  rw [h]

@[simp] theorem State.hear_links (rx : Nat) (e : Option Nat) (s : State) : (State.hear rx e s).links = s.links := by
  obtain ⟨_, h⟩ := State.hear_frame rx e s
  rw [h]

@[simp] theorem State.hear_classes (rx : Nat) (e : Option Nat) (s : State) : (State.hear rx e s).classes = s.classes := by
  obtain ⟨_, h⟩ := State.hear_frame rx e s
  rw [h]

@[simp] theorem State.hear_slots (rx : Nat) (e : Option Nat) (s : State) : (State.hear rx e s).slots = s.slots := by
  obtain ⟨_, h⟩ := State.hear_frame rx e s
  rw [h]

@[simp] theorem State.hear_windows (rx : Nat) (e : Option Nat) (s : State) : (State.hear rx e s).windows = s.windows := by
  obtain ⟨_, h⟩ := State.hear_frame rx e s
  rw [h]

@[simp] theorem State.hear_generation (rx : Nat) (e : Option Nat) (s : State) : (State.hear rx e s).generation = s.generation := by
  obtain ⟨_, h⟩ := State.hear_frame rx e s
  rw [h]

@[simp] theorem State.hear_seq (rx : Nat) (e : Option Nat) (s : State) : (State.hear rx e s).seq = s.seq := by
  obtain ⟨_, h⟩ := State.hear_frame rx e s
  rw [h]

@[simp] theorem State.hear_timing (rx : Nat) (e : Option Nat) (s : State) : (State.hear rx e s).timing = s.timing := by
  obtain ⟨_, h⟩ := State.hear_frame rx e s
  rw [h]

@[simp] theorem State.hear_observations (rx : Nat) (e : Option Nat) (s : State) : (State.hear rx e s).observations = s.observations := by
  obtain ⟨_, h⟩ := State.hear_frame rx e s
  rw [h]

@[simp] theorem State.hear_cursor (rx : Nat) (e : Option Nat) (s : State) : (State.hear rx e s).cursor = s.cursor := by
  obtain ⟨_, h⟩ := State.hear_frame rx e s
  rw [h]

@[simp] theorem State.hear_verdicts (rx : Nat) (e : Option Nat) (s : State) : (State.hear rx e s).verdicts = s.verdicts := by
  obtain ⟨_, h⟩ := State.hear_frame rx e s
  rw [h]

@[simp] theorem State.hear_findings (rx : Nat) (e : Option Nat) (s : State) : (State.hear rx e s).findings = s.findings := by
  obtain ⟨_, h⟩ := State.hear_frame rx e s
  rw [h]

@[simp] theorem State.hear_nextSeq (rx : Nat) (e : Option Nat) (s : State) : (State.hear rx e s).nextSeq = s.nextSeq := by
  obtain ⟨_, h⟩ := State.hear_frame rx e s
  rw [h]

@[simp] theorem State.hear_stateSeen (rx : Nat) (e : Option Nat) (s : State) : (State.hear rx e s).stateSeen = s.stateSeen := by
  obtain ⟨_, h⟩ := State.hear_frame rx e s
  rw [h]

@[simp] theorem State.hear_port (rx : Nat) (e : Option Nat) (s : State) : (State.hear rx e s).port = s.port := by
  obtain ⟨_, h⟩ := State.hear_frame rx e s
  rw [h]

@[simp] theorem State.hear_lines (rx : Nat) (e : Option Nat) (s : State) : (State.hear rx e s).lines = s.lines := by
  obtain ⟨_, h⟩ := State.hear_frame rx e s
  rw [h]

@[simp] theorem State.hear_pending (rx : Nat) (e : Option Nat) (s : State) : (State.hear rx e s).pending = s.pending := by
  obtain ⟨_, h⟩ := State.hear_frame rx e s
  rw [h]

@[simp] theorem State.applyRecord_links (m : Bool) (rx : Nat) (x : LaneRecord) (s : State) : (State.applyRecord m rx x s).links = s.links := by
  obtain ⟨_, _, h⟩ := State.applyRecord_frame m rx x s
  rw [h]

@[simp] theorem State.applyRecord_classes (m : Bool) (rx : Nat) (x : LaneRecord) (s : State) : (State.applyRecord m rx x s).classes = s.classes := by
  obtain ⟨_, _, h⟩ := State.applyRecord_frame m rx x s
  rw [h]

@[simp] theorem State.applyRecord_slots (m : Bool) (rx : Nat) (x : LaneRecord) (s : State) : (State.applyRecord m rx x s).slots = s.slots := by
  obtain ⟨_, _, h⟩ := State.applyRecord_frame m rx x s
  rw [h]

@[simp] theorem State.applyRecord_windows (m : Bool) (rx : Nat) (x : LaneRecord) (s : State) : (State.applyRecord m rx x s).windows = s.windows := by
  obtain ⟨_, _, h⟩ := State.applyRecord_frame m rx x s
  rw [h]

@[simp] theorem State.applyRecord_generation (m : Bool) (rx : Nat) (x : LaneRecord) (s : State) : (State.applyRecord m rx x s).generation = s.generation := by
  obtain ⟨_, _, h⟩ := State.applyRecord_frame m rx x s
  rw [h]

@[simp] theorem State.applyRecord_seq (m : Bool) (rx : Nat) (x : LaneRecord) (s : State) : (State.applyRecord m rx x s).seq = s.seq := by
  obtain ⟨_, _, h⟩ := State.applyRecord_frame m rx x s
  rw [h]

@[simp] theorem State.applyRecord_timing (m : Bool) (rx : Nat) (x : LaneRecord) (s : State) : (State.applyRecord m rx x s).timing = s.timing := by
  obtain ⟨_, _, h⟩ := State.applyRecord_frame m rx x s
  rw [h]

@[simp] theorem State.applyRecord_cursor (m : Bool) (rx : Nat) (x : LaneRecord) (s : State) : (State.applyRecord m rx x s).cursor = s.cursor := by
  obtain ⟨_, _, h⟩ := State.applyRecord_frame m rx x s
  rw [h]

@[simp] theorem State.applyRecord_verdicts (m : Bool) (rx : Nat) (x : LaneRecord) (s : State) : (State.applyRecord m rx x s).verdicts = s.verdicts := by
  obtain ⟨_, _, h⟩ := State.applyRecord_frame m rx x s
  rw [h]

@[simp] theorem State.applyRecord_findings (m : Bool) (rx : Nat) (x : LaneRecord) (s : State) : (State.applyRecord m rx x s).findings = s.findings := by
  obtain ⟨_, _, h⟩ := State.applyRecord_frame m rx x s
  rw [h]

@[simp] theorem State.applyRecord_nextSeq (m : Bool) (rx : Nat) (x : LaneRecord) (s : State) : (State.applyRecord m rx x s).nextSeq = s.nextSeq := by
  obtain ⟨_, _, h⟩ := State.applyRecord_frame m rx x s
  rw [h]

@[simp] theorem State.applyRecord_stateSeen (m : Bool) (rx : Nat) (x : LaneRecord) (s : State) : (State.applyRecord m rx x s).stateSeen = s.stateSeen := by
  obtain ⟨_, _, h⟩ := State.applyRecord_frame m rx x s
  rw [h]

@[simp] theorem State.applyRecord_port (m : Bool) (rx : Nat) (x : LaneRecord) (s : State) : (State.applyRecord m rx x s).port = s.port := by
  obtain ⟨_, _, h⟩ := State.applyRecord_frame m rx x s
  rw [h]

@[simp] theorem State.applyRecord_lines (m : Bool) (rx : Nat) (x : LaneRecord) (s : State) : (State.applyRecord m rx x s).lines = s.lines := by
  obtain ⟨_, _, h⟩ := State.applyRecord_frame m rx x s
  rw [h]

@[simp] theorem State.applyRecord_pending (m : Bool) (rx : Nat) (x : LaneRecord) (s : State) : (State.applyRecord m rx x s).pending = s.pending := by
  obtain ⟨_, _, h⟩ := State.applyRecord_frame m rx x s
  rw [h]

@[simp] theorem State.applyRecords_links (m : Bool) (i : Nat) (x : List LaneRecord) (s : State) : (State.applyRecords m i x s).links = s.links := by
  obtain ⟨_, _, h⟩ := State.applyRecords_frame m i x s
  rw [h]

@[simp] theorem State.applyRecords_classes (m : Bool) (i : Nat) (x : List LaneRecord) (s : State) : (State.applyRecords m i x s).classes = s.classes := by
  obtain ⟨_, _, h⟩ := State.applyRecords_frame m i x s
  rw [h]

@[simp] theorem State.applyRecords_slots (m : Bool) (i : Nat) (x : List LaneRecord) (s : State) : (State.applyRecords m i x s).slots = s.slots := by
  obtain ⟨_, _, h⟩ := State.applyRecords_frame m i x s
  rw [h]

@[simp] theorem State.applyRecords_windows (m : Bool) (i : Nat) (x : List LaneRecord) (s : State) : (State.applyRecords m i x s).windows = s.windows := by
  obtain ⟨_, _, h⟩ := State.applyRecords_frame m i x s
  rw [h]

@[simp] theorem State.applyRecords_generation (m : Bool) (i : Nat) (x : List LaneRecord) (s : State) : (State.applyRecords m i x s).generation = s.generation := by
  obtain ⟨_, _, h⟩ := State.applyRecords_frame m i x s
  rw [h]

@[simp] theorem State.applyRecords_seq (m : Bool) (i : Nat) (x : List LaneRecord) (s : State) : (State.applyRecords m i x s).seq = s.seq := by
  obtain ⟨_, _, h⟩ := State.applyRecords_frame m i x s
  rw [h]

@[simp] theorem State.applyRecords_timing (m : Bool) (i : Nat) (x : List LaneRecord) (s : State) : (State.applyRecords m i x s).timing = s.timing := by
  obtain ⟨_, _, h⟩ := State.applyRecords_frame m i x s
  rw [h]

@[simp] theorem State.applyRecords_cursor (m : Bool) (i : Nat) (x : List LaneRecord) (s : State) : (State.applyRecords m i x s).cursor = s.cursor := by
  obtain ⟨_, _, h⟩ := State.applyRecords_frame m i x s
  rw [h]

@[simp] theorem State.applyRecords_verdicts (m : Bool) (i : Nat) (x : List LaneRecord) (s : State) : (State.applyRecords m i x s).verdicts = s.verdicts := by
  obtain ⟨_, _, h⟩ := State.applyRecords_frame m i x s
  rw [h]

@[simp] theorem State.applyRecords_findings (m : Bool) (i : Nat) (x : List LaneRecord) (s : State) : (State.applyRecords m i x s).findings = s.findings := by
  obtain ⟨_, _, h⟩ := State.applyRecords_frame m i x s
  rw [h]

@[simp] theorem State.applyRecords_nextSeq (m : Bool) (i : Nat) (x : List LaneRecord) (s : State) : (State.applyRecords m i x s).nextSeq = s.nextSeq := by
  obtain ⟨_, _, h⟩ := State.applyRecords_frame m i x s
  rw [h]

@[simp] theorem State.applyRecords_stateSeen (m : Bool) (i : Nat) (x : List LaneRecord) (s : State) : (State.applyRecords m i x s).stateSeen = s.stateSeen := by
  obtain ⟨_, _, h⟩ := State.applyRecords_frame m i x s
  rw [h]

@[simp] theorem State.applyRecords_port (m : Bool) (i : Nat) (x : List LaneRecord) (s : State) : (State.applyRecords m i x s).port = s.port := by
  obtain ⟨_, _, h⟩ := State.applyRecords_frame m i x s
  rw [h]

@[simp] theorem State.applyRecords_lines (m : Bool) (i : Nat) (x : List LaneRecord) (s : State) : (State.applyRecords m i x s).lines = s.lines := by
  obtain ⟨_, _, h⟩ := State.applyRecords_frame m i x s
  rw [h]

@[simp] theorem State.applyRecords_pending (m : Bool) (i : Nat) (x : List LaneRecord) (s : State) : (State.applyRecords m i x s).pending = s.pending := by
  obtain ⟨_, _, h⟩ := State.applyRecords_frame m i x s
  rw [h]

@[simp] theorem State.takeReport_links (i n g : Nat) (x : List LaneRecord) (s : State) : (State.takeReport i n g x s).links = s.links := by
  obtain ⟨_, _, _, h⟩ := State.takeReport_frame i n g x s
  rw [h]

@[simp] theorem State.takeReport_classes (i n g : Nat) (x : List LaneRecord) (s : State) : (State.takeReport i n g x s).classes = s.classes := by
  obtain ⟨_, _, _, h⟩ := State.takeReport_frame i n g x s
  rw [h]

@[simp] theorem State.takeReport_slots (i n g : Nat) (x : List LaneRecord) (s : State) : (State.takeReport i n g x s).slots = s.slots := by
  obtain ⟨_, _, _, h⟩ := State.takeReport_frame i n g x s
  rw [h]

@[simp] theorem State.takeReport_generation (i n g : Nat) (x : List LaneRecord) (s : State) : (State.takeReport i n g x s).generation = s.generation := by
  obtain ⟨_, _, _, h⟩ := State.takeReport_frame i n g x s
  rw [h]

@[simp] theorem State.takeReport_seq (i n g : Nat) (x : List LaneRecord) (s : State) : (State.takeReport i n g x s).seq = s.seq := by
  obtain ⟨_, _, _, h⟩ := State.takeReport_frame i n g x s
  rw [h]

@[simp] theorem State.takeReport_timing (i n g : Nat) (x : List LaneRecord) (s : State) : (State.takeReport i n g x s).timing = s.timing := by
  obtain ⟨_, _, _, h⟩ := State.takeReport_frame i n g x s
  rw [h]

@[simp] theorem State.takeReport_cursor (i n g : Nat) (x : List LaneRecord) (s : State) : (State.takeReport i n g x s).cursor = s.cursor := by
  obtain ⟨_, _, _, h⟩ := State.takeReport_frame i n g x s
  rw [h]

@[simp] theorem State.takeReport_verdicts (i n g : Nat) (x : List LaneRecord) (s : State) : (State.takeReport i n g x s).verdicts = s.verdicts := by
  obtain ⟨_, _, _, h⟩ := State.takeReport_frame i n g x s
  rw [h]

@[simp] theorem State.takeReport_findings (i n g : Nat) (x : List LaneRecord) (s : State) : (State.takeReport i n g x s).findings = s.findings := by
  obtain ⟨_, _, _, h⟩ := State.takeReport_frame i n g x s
  rw [h]

@[simp] theorem State.takeReport_nextSeq (i n g : Nat) (x : List LaneRecord) (s : State) : (State.takeReport i n g x s).nextSeq = s.nextSeq := by
  obtain ⟨_, _, _, h⟩ := State.takeReport_frame i n g x s
  rw [h]

@[simp] theorem State.takeReport_stateSeen (i n g : Nat) (x : List LaneRecord) (s : State) : (State.takeReport i n g x s).stateSeen = s.stateSeen := by
  obtain ⟨_, _, _, h⟩ := State.takeReport_frame i n g x s
  rw [h]

@[simp] theorem State.takeReport_port (i n g : Nat) (x : List LaneRecord) (s : State) : (State.takeReport i n g x s).port = s.port := by
  obtain ⟨_, _, _, h⟩ := State.takeReport_frame i n g x s
  rw [h]

@[simp] theorem State.takeReport_lines (i n g : Nat) (x : List LaneRecord) (s : State) : (State.takeReport i n g x s).lines = s.lines := by
  obtain ⟨_, _, _, h⟩ := State.takeReport_frame i n g x s
  rw [h]

@[simp] theorem State.takeReport_pending (i n g : Nat) (x : List LaneRecord) (s : State) : (State.takeReport i n g x s).pending = s.pending := by
  obtain ⟨_, _, _, h⟩ := State.takeReport_frame i n g x s
  rw [h]

@[simp] theorem State.stepLink_links (i : Nat) (x : Link) (s : State) : (State.stepLink i x s).links = s.links := by
  obtain ⟨_, _, _, _, _, _, _, _, h⟩ := State.stepLink_frame i x s
  rw [h]

@[simp] theorem State.stepLink_classes (i : Nat) (x : Link) (s : State) : (State.stepLink i x s).classes = s.classes := by
  obtain ⟨_, _, _, _, _, _, _, _, h⟩ := State.stepLink_frame i x s
  rw [h]

@[simp] theorem State.stepLink_generation (i : Nat) (x : Link) (s : State) : (State.stepLink i x s).generation = s.generation := by
  obtain ⟨_, _, _, _, _, _, _, _, h⟩ := State.stepLink_frame i x s
  rw [h]

@[simp] theorem State.stepLink_timing (i : Nat) (x : Link) (s : State) : (State.stepLink i x s).timing = s.timing := by
  obtain ⟨_, _, _, _, _, _, _, _, h⟩ := State.stepLink_frame i x s
  rw [h]

@[simp] theorem State.stepLink_observations (i : Nat) (x : Link) (s : State) : (State.stepLink i x s).observations = s.observations := by
  obtain ⟨_, _, _, _, _, _, _, _, h⟩ := State.stepLink_frame i x s
  rw [h]

@[simp] theorem State.stepLink_hearing (i : Nat) (x : Link) (s : State) : (State.stepLink i x s).hearing = s.hearing := by
  obtain ⟨_, _, _, _, _, _, _, _, h⟩ := State.stepLink_frame i x s
  rw [h]

@[simp] theorem State.stepLink_port (i : Nat) (x : Link) (s : State) : (State.stepLink i x s).port = s.port := by
  obtain ⟨_, _, _, _, _, _, _, _, h⟩ := State.stepLink_frame i x s
  rw [h]

@[simp] theorem State.stepLink_lines (i : Nat) (x : Link) (s : State) : (State.stepLink i x s).lines = s.lines := by
  obtain ⟨_, _, _, _, _, _, _, _, h⟩ := State.stepLink_frame i x s
  rw [h]

@[simp] theorem State.stepLink_pending (i : Nat) (x : Link) (s : State) : (State.stepLink i x s).pending = s.pending := by
  obtain ⟨_, _, _, _, _, _, _, _, h⟩ := State.stepLink_frame i x s
  rw [h]

@[simp] theorem State.stepUnplanned_links (rx : Nat) (s : State) : (State.stepUnplanned rx s).links = s.links := by
  obtain ⟨_, _, _, _, _, _, _, h⟩ := State.stepUnplanned_frame rx s
  rw [h]

@[simp] theorem State.stepUnplanned_classes (rx : Nat) (s : State) : (State.stepUnplanned rx s).classes = s.classes := by
  obtain ⟨_, _, _, _, _, _, _, h⟩ := State.stepUnplanned_frame rx s
  rw [h]

@[simp] theorem State.stepUnplanned_generation (rx : Nat) (s : State) : (State.stepUnplanned rx s).generation = s.generation := by
  obtain ⟨_, _, _, _, _, _, _, h⟩ := State.stepUnplanned_frame rx s
  rw [h]

@[simp] theorem State.stepUnplanned_timing (rx : Nat) (s : State) : (State.stepUnplanned rx s).timing = s.timing := by
  obtain ⟨_, _, _, _, _, _, _, h⟩ := State.stepUnplanned_frame rx s
  rw [h]

@[simp] theorem State.stepUnplanned_observations (rx : Nat) (s : State) : (State.stepUnplanned rx s).observations = s.observations := by
  obtain ⟨_, _, _, _, _, _, _, h⟩ := State.stepUnplanned_frame rx s
  rw [h]

@[simp] theorem State.stepUnplanned_hearing (rx : Nat) (s : State) : (State.stepUnplanned rx s).hearing = s.hearing := by
  obtain ⟨_, _, _, _, _, _, _, h⟩ := State.stepUnplanned_frame rx s
  rw [h]

@[simp] theorem State.stepUnplanned_verdicts (rx : Nat) (s : State) : (State.stepUnplanned rx s).verdicts = s.verdicts := by
  obtain ⟨_, _, _, _, _, _, _, h⟩ := State.stepUnplanned_frame rx s
  rw [h]

@[simp] theorem State.stepUnplanned_port (rx : Nat) (s : State) : (State.stepUnplanned rx s).port = s.port := by
  obtain ⟨_, _, _, _, _, _, _, h⟩ := State.stepUnplanned_frame rx s
  rw [h]

@[simp] theorem State.stepUnplanned_lines (rx : Nat) (s : State) : (State.stepUnplanned rx s).lines = s.lines := by
  obtain ⟨_, _, _, _, _, _, _, h⟩ := State.stepUnplanned_frame rx s
  rw [h]

@[simp] theorem State.stepUnplanned_pending (rx : Nat) (s : State) : (State.stepUnplanned rx s).pending = s.pending := by
  obtain ⟨_, _, _, _, _, _, _, h⟩ := State.stepUnplanned_frame rx s
  rw [h]

end Sys2Proof.Machine
end

