-- ==== Sys2Proof/Laws/Port.lean ====
section
/-!
SUPPORT. What the port does with a request: the judgement by cases, and the state after a request command by cases.
-/

namespace Sys2Proof.Machine

-- ==== The judgement (R181) ====

@[simp] theorem judge_anonymous (e : Option Entry) (s : State) : judge 0 e s = refuse .notPermitted s := by
  simp [judge]

theorem judge_unknown {src : SourceId} (h : src ≠ 0) (s : State) : judge src none s = refuse .unknown s := by
  unfold judge
  rw [if_neg h]

theorem RequesterClass.permits_ne_zero {k : RequesterClass} {src : SourceId} (h : k.permits src = true) : src ≠ 0 := by
  rintro rfl
  cases k <;> revert h <;> decide

theorem judge_wrongClass {src : SourceId} {e : Entry} (hc : e.cls.permits src = false) (s : State) :
    judge src (some e) s = refuse .notPermitted s := by
  simp [judge, hc]

theorem judge_badLength {src : SourceId} {e : Entry} (hc : e.cls.permits src = true) (hl : e.lengthOk = false)
    (s : State) : judge src (some e) s = refuse .badLength s := by
  unfold judge
  rw [if_neg (RequesterClass.permits_ne_zero hc)]
  simp [hc, hl]

theorem judge_taken {src : SourceId} {e : Entry} (hc : e.cls.permits src = true) (hl : e.lengthOk = true) (s : State) :
    judge src (some e) s = e.body s := by
  unfold judge
  rw [if_neg (RequesterClass.permits_ne_zero hc)]
  simp [hc, hl]

/-- A judgement leaves the part as it was, or hands the request to its owning block. -/
theorem judge_cases (src : SourceId) (entry : Option Entry) (s : State) :
    (judge src entry s).state = s ∨
      ∃ e, entry = some e ∧ e.cls.permits src = true ∧ e.lengthOk = true ∧ judge src entry s = e.body s := by
  unfold judge
  split
  · exact Or.inl rfl
  · cases entry with
    | none => exact Or.inl rfl
    | some e =>
      dsimp only
      split
      · split
        · exact Or.inr ⟨e, rfl, by assumption, by assumption, rfl⟩
        · exact Or.inl rfl
      · exact Or.inl rfl

-- ==== A request command (R175, R176, R178) ====

theorem State.deliver_low {s : State} (h : s.lines.resetN = false) (rq : Requester) (e : Option Entry) (n : Nat) :
    s.deliver rq e n = s.quietLines := by
  simp [State.deliver, h]

theorem State.deliver_latched {s : State} (h : s.lines.resetN = true) (hl : s.port.latch = true) (rq : Requester)
    (e : Option Entry) (n : Nat) : s.deliver rq e n = s.quietLines.giveAck .nak := by
  simp [State.deliver, h, hl]

theorem State.deliver_long {s : State} (h : s.Listening) {n : Nat} (hn : 128 < n) (rq : Requester) (e : Option Entry) :
    s.deliver rq e n = (s.quietLines.endFrame rq.check .badLength []).giveAck .nak := by
  simp [State.deliver, h.1, h.2, hn]

theorem State.deliver_frame {s : State} (h : s.Listening) {n : Nat} (hn : n ≤ 128) (rq : Requester) (e : Option Entry) :
    s.deliver rq e n = s.quietLines.completeFrame rq e := by
  simp [State.deliver, h.1, h.2, Nat.not_lt.mpr hn]

/-- A frame that completes, in the words of the statements. -/
theorem State.completeFrame_eq (rq : Requester) (e : Option Entry) (s : State) (a : Answer) (ha : judge rq.source e s = a)
    (hl : a.state.lines.sent = none) :
    s.completeFrame rq e = a.state.answered rq a.result a.payload a.state.lines.epochPulse := by
  unfold State.completeFrame
  rw [ha]
  unfold State.answered
  rw [← hl]
  rfl

/-- A request that its owning block takes: the state after the command is the block's state with the answer in it. -/
theorem State.deliver_taken {s : State} (h : s.Listening) {rq : Requester} {e : Entry} {n : Nat} (hn : n ≤ 128)
    (hc : e.cls.permits rq.source = true) (hk : e.lengthOk = true) {a : Answer} (ha : e.body s.quietLines = a)
    (hl : a.state.lines.sent = none) :
    s.deliver rq (some e) n = a.state.answered rq a.result a.payload a.state.lines.epochPulse := by
  rw [State.deliver_frame h hn]
  exact State.completeFrame_eq rq _ _ a (by rw [judge_taken hc hk]; exact ha) hl

/-- A request that is refused before any block sees it. -/
theorem State.deliver_refused {s : State} (h : s.Listening) {rq : Requester} {e : Option Entry} {n : Nat} (hn : n ≤ 128)
    {r : Result} (ha : judge rq.source e s.quietLines = refuse r s.quietLines) :
    s.deliver rq e n = s.answered rq r [] := by
  rw [State.deliver_frame h hn, State.completeFrame_eq rq _ _ _ ha rfl]
  rfl

/-- A frame that completes leaves the state its judgement gives, but for the port and the lines. -/
theorem State.completeFrame_frame (rq : Requester) (e : Option Entry) (s : State) :
    ∃ p l, s.completeFrame rq e = { (judge rq.source e s).state with port := p, lines := l } :=
  ⟨_, _, rfl⟩

/-- What a request command may do, whatever the state of the port: nothing but to the port and the lines, or the owning
block's work. -/
theorem State.deliver_cases (s : State) (rq : Requester) (entry : Option Entry) (n : Nat) :
    (∃ p l, s.deliver rq entry n = { s with port := p, lines := l }) ∨
      ∃ e, entry = some e ∧ e.cls.permits rq.source = true ∧ e.lengthOk = true ∧
        ∃ p l, s.deliver rq entry n = { (e.body s.quietLines).state with port := p, lines := l } := by
  unfold State.deliver
  dsimp only
  split
  · split
    · exact Or.inl ⟨_, _, rfl⟩
    · split
      · exact Or.inl ⟨_, _, rfl⟩
      · obtain ⟨p, l, h⟩ := State.completeFrame_frame rq entry s.quietLines
        rcases judge_cases rq.source entry s.quietLines with hs | ⟨e, he, hc, hl, hj⟩
        · exact Or.inl ⟨p, l, h.trans (by rw [hs]; rfl)⟩
        · exact Or.inr ⟨e, he, hc, hl, p, l, h.trans (by rw [hj])⟩
  · exact Or.inl ⟨_, _, rfl⟩

end Sys2Proof.Machine
end

