-- ==== Sys2Proof/Laws/Preservation.lean ====
section
/-!
SUPPORT. Everything a command can do, said once: `exec_cases` lists the outcomes of a command by the work it does on the
blocks, and `exec_preserves` and `step_preserves` carry a property of the blocks through a command and a step.
-/

namespace Sys2Proof.Machine

/-- The work an owning block does for a request of the catalogue that a source of the right class sent (R184). -/
inductive CatalogueBody (src : SourceId) : (State → Answer) → Prop
  | enrol (slot lanes : Byte) (hc : isProbe src = true) : CatalogueBody src (enrolBody src slot lanes)
  | leave (hc : isProbe src = true) : CatalogueBody src (leaveBody src)
  | fetchDrives (page : Byte) (hc : isProbe src = true) : CatalogueBody src (fetchDrivesBody src page)
  | ready (hc : isProbe src = true) : CatalogueBody src (readyBody src)
  | report (slot : Byte) (epoch : Half) (group count : Byte) (records : List LaneRecord) (hc : isProbe src = true) :
      CatalogueBody src (reportBody src slot epoch group count records)
  | hold (h : Byte) (hc : isProbe src = true) : CatalogueBody src (holdBody src h)
  | quiet (hc : isProbe src = true) : CatalogueBody src (quietBody src)
  | status (hc : (isProbe src || isStation src) = true) : CatalogueBody src (statusBody src)
  | setLink (f : LinkFields) (hc : isStation src = true) : CatalogueBody src (setLinkBody f)
  | dropLink (id : Half) (hc : isStation src = true) : CatalogueBody src (dropLinkBody id)
  | getLink (id : Half) (hc : isStation src = true) : CatalogueBody src (getLinkBody id)
  | clearPlan (hc : isStation src = true) : CatalogueBody src (clearPlanBody)
  | setClass (cls qreq band : Byte) (hc : isStation src = true) : CatalogueBody src (setClassBody cls qreq band)
  | getClass (cls : Byte) (hc : isStation src = true) : CatalogueBody src (getClassBody cls)
  | setTiming (f : TimingFields) (hc : isStation src = true) : CatalogueBody src (setTimingBody f)
  | getTiming (hc : isStation src = true) : CatalogueBody src (getTimingBody)
  | start (hc : isStation src = true) : CatalogueBody src (startBody)
  | abort (hc : isStation src = true) : CatalogueBody src (abortBody)
  | continueSweep (hc : isStation src = true) : CatalogueBody src (continueBody)
  | clearHalt (hc : isStation src = true) : CatalogueBody src (clearHaltBody)
  | resetCampaign (hc : isStation src = true) : CatalogueBody src (resetCampaignBody)
  | getSlot (slot : Byte) (hc : isStation src = true) : CatalogueBody src (getSlotBody slot)
  | releaseSlot (slot : Byte) (hc : isStation src = true) : CatalogueBody src (releaseSlotBody slot)
  | getObservation (rx : Half) (hc : isStation src = true) : CatalogueBody src (getObservationBody rx)
  | getHearers (tx : Half) (hc : isStation src = true) : CatalogueBody src (getHearersBody tx)
  | getVerdict (id : Half) (hc : isStation src = true) : CatalogueBody src (getVerdictBody id)
  | peekFinding (hc : isStation src = true) : CatalogueBody src (peekFindingBody)
  | releaseFinding (seq : Half) (hc : isStation src = true) : CatalogueBody src (releaseFindingBody seq)

/-- A request the catalogue gives is one of the blocks' bodies. -/
theorem probeCatalogue_body {src : SourceId} {code : Nat} {p : List Byte} {e : Entry}
    (h : probeCatalogue src code p = some e) (hc : e.cls.permits src = true) : CatalogueBody src e.body := by
  unfold probeCatalogue at h
  split at h
  · obtain rfl := Option.some.inj h
    exact .enrol _ _ hc
  · obtain rfl := Option.some.inj h
    exact .leave hc
  · obtain rfl := Option.some.inj h
    exact .fetchDrives _ hc
  · obtain rfl := Option.some.inj h
    exact .ready hc
  · obtain rfl := Option.some.inj h
    exact .report _ _ _ _ _ hc
  · obtain rfl := Option.some.inj h
    exact .hold _ hc
  · obtain rfl := Option.some.inj h
    exact .quiet hc
  · obtain rfl := Option.some.inj h
    exact .status hc
  · exact absurd h (by simp)

theorem planCatalogue_body {src : SourceId} {code : Nat} {p : List Byte} {e : Entry}
    (h : planCatalogue code p = some e) (hc : e.cls.permits src = true) : CatalogueBody src e.body := by
  unfold planCatalogue at h
  split at h
  · obtain rfl := Option.some.inj h
    exact .setLink _ hc
  · obtain rfl := Option.some.inj h
    exact .dropLink _ hc
  · obtain rfl := Option.some.inj h
    exact .getLink _ hc
  · obtain rfl := Option.some.inj h
    exact .clearPlan hc
  · obtain rfl := Option.some.inj h
    exact .setClass _ _ _ hc
  · obtain rfl := Option.some.inj h
    exact .getClass _ hc
  · obtain rfl := Option.some.inj h
    exact .setTiming _ hc
  · obtain rfl := Option.some.inj h
    exact .getTiming hc
  · exact absurd h (by simp)

theorem sweepCatalogue_body {src : SourceId} {code : Nat} {p : List Byte} {e : Entry}
    (h : sweepCatalogue code p = some e) (hc : e.cls.permits src = true) : CatalogueBody src e.body := by
  unfold sweepCatalogue at h
  split at h
  · obtain rfl := Option.some.inj h
    exact .start hc
  · obtain rfl := Option.some.inj h
    exact .abort hc
  · obtain rfl := Option.some.inj h
    exact .continueSweep hc
  · obtain rfl := Option.some.inj h
    exact .clearHalt hc
  · obtain rfl := Option.some.inj h
    exact .resetCampaign hc
  · obtain rfl := Option.some.inj h
    exact .getSlot _ hc
  · obtain rfl := Option.some.inj h
    exact .releaseSlot _ hc
  · obtain rfl := Option.some.inj h
    exact .getObservation _ hc
  · obtain rfl := Option.some.inj h
    exact .getHearers _ hc
  · obtain rfl := Option.some.inj h
    exact .getVerdict _ hc
  · obtain rfl := Option.some.inj h
    exact .peekFinding hc
  · obtain rfl := Option.some.inj h
    exact .releaseFinding _ hc
  · exact absurd h (by simp)

theorem catalogue_body {src : SourceId} {code : BitVec 7} {p : List Byte} {e : Entry}
    (h : catalogue src code p = some e) (hc : e.cls.permits src = true) : CatalogueBody src e.body := by
  cases h1 : probeCatalogue src code.toNat p with
  | some e' =>
    simp only [catalogue, h1] at h
    obtain rfl := Option.some.inj h
    exact probeCatalogue_body h1 hc
  | none =>
    cases h2 : planCatalogue code.toNat p with
    | some e' =>
      simp only [catalogue, h1, h2] at h
      obtain rfl := Option.some.inj h
      exact planCatalogue_body h2 hc
    | none =>
      simp only [catalogue, h1, h2] at h
      exact sweepCatalogue_body h hc

/-- The state after a command, by the work it did on the blocks. `s.quietLines` differs from `s` in the lines alone. -/
inductive Worked (s t : State) : Prop
  | none (h : ∃ p l, t = { s with port := p, lines := l })
  | body (src : SourceId) (b : State → Answer) (hb : CatalogueBody src b)
      (h : ∃ p l s', (∃ p' l', s' = { s with port := p', lines := l' }) ∧
        t = { (b s').state with port := p, lines := l })
  | reset (h : ∃ p l, t = { State.reset with pending := s.pending, port := p, lines := l })
  | expire (period : Nat) (ht : s.seq.timer = .running period)
      (h : ∃ l, t = { s.quietLines.expire with lines := l })
  | link (k : Nat) (x : Link) (hn : s.nextLink = some (k, x)) (h : ∃ l, t = { s.quietLines.stepLink k x with lines := l })
  | unplanned (rx : Nat) (hn : s.nextUnplanned = some rx)
      (h : ∃ l, t = { s.quietLines.stepUnplanned rx with lines := l })

theorem Worked.deliver (s : State) (rq : Requester) (entry : Option Entry) (n : Nat)
    (h : ∀ e, entry = some e → e.cls.permits rq.source = true → CatalogueBody rq.source e.body) :
    Worked s (s.deliver rq entry n) := by
  rcases State.deliver_cases s rq entry n with hn | ⟨e, he, hc, _, p, l, hd⟩
  · exact .none hn
  · exact .body rq.source e.body (h e he hc) ⟨p, l, s.quietLines, ⟨_, _, rfl⟩, hd⟩

theorem Worked.completeFrame (s s' : State) (hs : ∃ p l, s' = { s with port := p, lines := l }) (rq : Requester)
    (entry : Option Entry)
    (h : ∀ e, entry = some e → e.cls.permits rq.source = true → CatalogueBody rq.source e.body) :
    Worked s (s'.completeFrame rq entry) := by
  obtain ⟨p, l, hf⟩ := State.completeFrame_frame rq entry s'
  rcases judge_cases rq.source entry s' with hj | ⟨e, he, hc, _, hj⟩
  · obtain ⟨p', l', hs⟩ := hs
    exact .none ⟨p, l, hf.trans (by rw [hj, hs])⟩
  · exact .body rq.source e.body (h e he hc) ⟨p, l, s', hs, hf.trans (by rw [hj])⟩

theorem Worked.frameDone (s s' : State) (hs : ∃ p l, s' = { s with port := p, lines := l }) (frame : List Byte) :
    Worked s (s'.frameDone frame) :=
  Worked.completeFrame s s' hs _ _ fun _ he hc => catalogue_body he hc

theorem Worked.bodyDone (s s' : State) (hs : ∃ p l, s' = { s with port := p, lines := l }) (frame : List Byte) :
    Worked s (s'.bodyDone frame) := by
  unfold State.bodyDone
  split
  · obtain ⟨p, l, rfl⟩ := hs
    exact .none ⟨_, _, rfl⟩
  · exact Worked.frameDone s s' hs frame

theorem Worked.excess (s s' : State) (hs : ∃ p l, s' = { s with port := p, lines := l }) : Worked s s'.excess := by
  obtain ⟨p, l, rfl⟩ := hs
  unfold State.excess
  split
  · exact .none ⟨_, _, rfl⟩
  · split <;> exact .none ⟨_, _, rfl⟩

theorem Worked.takeByte (s s' : State) (hs : ∃ p l, s' = { s with port := p, lines := l }) (b : Byte) :
    Worked s (s'.takeByte b) := by
  unfold State.takeByte
  split
  · unfold State.headerByte
    split
    · obtain ⟨p, l, rfl⟩ := hs
      exact .none ⟨_, _, rfl⟩
    · unfold State.takeLength
      split
      · obtain ⟨p, l, rfl⟩ := hs
        exact .none ⟨_, _, rfl⟩
      · split
        · exact Worked.bodyDone s s' hs _
        · obtain ⟨p, l, rfl⟩ := hs
          exact .none ⟨_, _, rfl⟩
  · unfold State.payloadByte
    split
    · obtain ⟨p, l, rfl⟩ := hs
      exact .none ⟨_, _, rfl⟩
    · exact Worked.bodyDone s s' hs _
  · unfold State.checkByte
    split
    · exact Worked.frameDone s s' hs _
    · obtain ⟨p, l, rfl⟩ := hs
      exact .none ⟨_, _, rfl⟩
  · exact Worked.excess s s' hs
  · obtain ⟨p, l, rfl⟩ := hs
    exact .none ⟨_, _, rfl⟩

theorem Worked.receive (s : State) (b : Byte) (parity : Bool) (take : State → State)
    (h : Worked s (take s.quietLines)) : Worked s (s.quietLines.receive b parity take) := by
  unfold State.receive
  split
  · split
    · exact .none ⟨_, _, rfl⟩
    · split
      · split
        · exact h
        · exact .none ⟨_, _, rfl⟩
      · exact .none ⟨_, _, rfl⟩
  · exact .none ⟨_, _, rfl⟩

theorem Worked.takeAddress (s : State) (b : Byte) : Worked s (s.quietLines.takeAddress b) := by
  unfold State.takeAddress
  split
  · split
    · exact .none ⟨_, _, rfl⟩
    · split
      · unfold State.openRead State.readPending
        split
        · split <;> exact .none ⟨_, _, rfl⟩
        · split <;> exact .none ⟨_, _, rfl⟩
        · split <;> exact .none ⟨_, _, rfl⟩
        · exact .none ⟨_, _, rfl⟩
        · exact .none ⟨_, _, rfl⟩
      · exact .none ⟨_, _, rfl⟩
  · exact .none ⟨_, _, rfl⟩

/-- Everything a command can do. -/
theorem exec_cases {c : Instr} {s t : State} (h : exec c s = .next t) : Worked s t := by
  have request : ∀ (rq : Requester) (e : Entry) (n : Nat),
      (e.cls.permits rq.source = true → CatalogueBody rq.source e.body) → Worked s (s.deliver rq (some e) n) :=
    fun rq e n hb => Worked.deliver s rq (some e) n fun e' he hc => by
      obtain rfl := Option.some.inj he
      exact hb hc
  cases c with
  | deviceReset =>
    obtain rfl := Host.Outcome.next.inj h
    exact .reset ⟨_, _, rfl⟩
  | resetnRelease a b =>
    simp only [exec, execResetnRelease] at h
    split at h <;> (obtain rfl := Host.Outcome.next.inj h; exact .none ⟨_, _, rfl⟩)
  | transactionStart =>
    simp only [exec, execTransactionStart] at h
    split at h <;> (obtain rfl := Host.Outcome.next.inj h; exact .none ⟨_, _, rfl⟩)
  | repeatedStart =>
    simp only [exec, execRepeatedStart] at h
    split at h <;> (obtain rfl := Host.Outcome.next.inj h; exact .none ⟨_, _, rfl⟩)
  | stop =>
    simp only [exec, execStop] at h
    split at h <;> (obtain rfl := Host.Outcome.next.inj h; exact .none ⟨_, _, rfl⟩)
  | addressByte b p =>
    simp only [exec, execAddressByte] at h
    split at h
    · split at h
      · obtain rfl := Host.Outcome.next.inj h
        exact Worked.takeAddress s b
      · obtain rfl := Host.Outcome.next.inj h
        exact .none ⟨_, _, rfl⟩
    · obtain rfl := Host.Outcome.next.inj h
      exact .none ⟨_, _, rfl⟩
  | writeByte b p =>
    obtain rfl := Host.Outcome.next.inj h
    exact Worked.receive s b p _ (Worked.takeByte s _ ⟨_, _, rfl⟩ b)
  | excessByte b p =>
    obtain rfl := Host.Outcome.next.inj h
    refine Worked.receive s b p _ ?_
    split
    · exact Worked.excess s _ ⟨_, _, rfl⟩
    · exact Worked.takeByte s _ ⟨_, _, rfl⟩ b
  | replyByte m =>
    simp only [exec, execReplyByte] at h
    split at h
    · split at h <;> (obtain rfl := Host.Outcome.next.inj h; exact .none ⟨_, _, rfl⟩)
    all_goals (obtain rfl := Host.Outcome.next.inj h; exact .none ⟨_, _, rfl⟩)
  | epochTimerExpiry =>
    simp only [exec, execEpochTimerExpiry] at h
    split at h
    · rename_i p hp
      obtain rfl := Host.Outcome.next.inj h
      exact .expire p hp ⟨_, rfl⟩
    · obtain rfl := Host.Outcome.next.inj h
      exact .none ⟨_, _, rfl⟩
    · obtain rfl := Host.Outcome.next.inj h
      exact .none ⟨_, _, rfl⟩
  | linkEvaluationStep =>
    simp only [exec, execLinkEvaluationStep] at h
    split at h
    · rename_i k x hn
      obtain rfl := Host.Outcome.next.inj h
      exact .link k x hn ⟨_, rfl⟩
    · obtain rfl := Host.Outcome.next.inj h
      exact .none ⟨_, _, rfl⟩
  | unplannedScanStep =>
    simp only [exec, execUnplannedScanStep] at h
    split at h
    · rename_i rx hn
      obtain rfl := Host.Outcome.next.inj h
      exact .unplanned rx hn ⟨_, rfl⟩
    · obtain rfl := Host.Outcome.next.inj h
      exact .none ⟨_, _, rfl⟩
  | unknownRequest rq code payload =>
    obtain rfl := Host.Outcome.next.inj h
    exact Worked.deliver s rq _ _ fun e he hc => catalogue_body he hc
  | enrol rq slot lanes =>
    obtain rfl := Host.Outcome.next.inj h
    exact request rq _ _ fun hc => .enrol slot lanes hc
  | leave rq =>
    obtain rfl := Host.Outcome.next.inj h
    exact request rq _ _ fun hc => .leave hc
  | fetchDrives rq page =>
    obtain rfl := Host.Outcome.next.inj h
    exact request rq _ _ fun hc => .fetchDrives page hc
  | ready rq =>
    obtain rfl := Host.Outcome.next.inj h
    exact request rq _ _ fun hc => .ready hc
  | report rq slot epoch group count records =>
    obtain rfl := Host.Outcome.next.inj h
    exact request rq _ _ fun hc => .report slot epoch group count records hc
  | hold rq x =>
    obtain rfl := Host.Outcome.next.inj h
    exact request rq _ _ fun hc => .hold x hc
  | quiet rq =>
    obtain rfl := Host.Outcome.next.inj h
    exact request rq _ _ fun hc => .quiet hc
  | status rq =>
    obtain rfl := Host.Outcome.next.inj h
    exact request rq _ _ fun hc => .status hc
  | setLink rq f =>
    obtain rfl := Host.Outcome.next.inj h
    exact request rq _ _ fun hc => .setLink f hc
  | dropLink rq id =>
    obtain rfl := Host.Outcome.next.inj h
    exact request rq _ _ fun hc => .dropLink id hc
  | getLink rq id =>
    obtain rfl := Host.Outcome.next.inj h
    exact request rq _ _ fun hc => .getLink id hc
  | clearPlan rq =>
    obtain rfl := Host.Outcome.next.inj h
    exact request rq _ _ fun hc => .clearPlan hc
  | setClass rq x y z =>
    obtain rfl := Host.Outcome.next.inj h
    exact request rq _ _ fun hc => .setClass x y z hc
  | getClass rq x =>
    obtain rfl := Host.Outcome.next.inj h
    exact request rq _ _ fun hc => .getClass x hc
  | setTiming rq f =>
    obtain rfl := Host.Outcome.next.inj h
    exact request rq _ _ fun hc => .setTiming f hc
  | getTiming rq =>
    obtain rfl := Host.Outcome.next.inj h
    exact request rq _ _ fun hc => .getTiming hc
  | start rq =>
    obtain rfl := Host.Outcome.next.inj h
    exact request rq _ _ fun hc => .start hc
  | abort rq =>
    obtain rfl := Host.Outcome.next.inj h
    exact request rq _ _ fun hc => .abort hc
  | continueSweep rq =>
    obtain rfl := Host.Outcome.next.inj h
    exact request rq _ _ fun hc => .continueSweep hc
  | clearHalt rq =>
    obtain rfl := Host.Outcome.next.inj h
    exact request rq _ _ fun hc => .clearHalt hc
  | resetCampaign rq =>
    obtain rfl := Host.Outcome.next.inj h
    exact request rq _ _ fun hc => .resetCampaign hc
  | getSlot rq x =>
    obtain rfl := Host.Outcome.next.inj h
    exact request rq _ _ fun hc => .getSlot x hc
  | releaseSlot rq x =>
    obtain rfl := Host.Outcome.next.inj h
    exact request rq _ _ fun hc => .releaseSlot x hc
  | getObservation rq x =>
    obtain rfl := Host.Outcome.next.inj h
    exact request rq _ _ fun hc => .getObservation x hc
  | getHearers rq x =>
    obtain rfl := Host.Outcome.next.inj h
    exact request rq _ _ fun hc => .getHearers x hc
  | getVerdict rq x =>
    obtain rfl := Host.Outcome.next.inj h
    exact request rq _ _ fun hc => .getVerdict x hc
  | peekFinding rq =>
    obtain rfl := Host.Outcome.next.inj h
    exact request rq _ _ fun hc => .peekFinding hc
  | releaseFinding rq x =>
    obtain rfl := Host.Outcome.next.inj h
    exact request rq _ _ fun hc => .releaseFinding x hc

/-- A property of the blocks that the work of every command keeps is kept by every command. -/
theorem exec_preserves {P : State → Prop}
    (hp : ∀ s q p l, P s → P { s with pending := q, port := p, lines := l })
    (hreset : P State.reset)
    (hbody : ∀ src b, CatalogueBody src b → ∀ s, P s → P (b s).state)
    (hexpire : ∀ s, P s → (∃ p, s.seq.timer = .running p) → P s.expire)
    (hlink : ∀ s k x, P s → s.nextLink = some (k, x) → P (s.stepLink k x))
    (hun : ∀ s rx, P s → s.nextUnplanned = some rx → P (s.stepUnplanned rx))
    {c : Instr} {s t : State} (h : exec c s = .next t) (hs : P s) : P t := by
  cases exec_cases h with
  | none h =>
    obtain ⟨p, l, rfl⟩ := h
    exact hp s s.pending p l hs
  | body src b hb h =>
    obtain ⟨p, l, s', ⟨p', l', rfl⟩, rfl⟩ := h
    exact hp _ _ p l (hbody src b hb _ (hp s s.pending p' l' hs))
  | reset h =>
    obtain ⟨p, l, rfl⟩ := h
    exact hp _ _ p l hreset
  | expire period ht h =>
    obtain ⟨l, rfl⟩ := h
    exact hp _ _ _ l (hexpire _ (hp s s.pending s.port _ hs) ⟨period, ht⟩)
  | link k x hn h =>
    obtain ⟨l, rfl⟩ := h
    exact hp _ _ _ l (hlink _ k x (hp s s.pending s.port _ hs) hn)
  | unplanned rx hn h =>
    obtain ⟨l, rfl⟩ := h
    exact hp _ _ _ l (hun _ rx (hp s s.pending s.port _ hs) hn)

/-- The same for a step. -/
theorem step_preserves {P : State → Prop}
    (hp : ∀ s q p l, P s → P { s with pending := q, port := p, lines := l })
    (hreset : P State.reset)
    (hbody : ∀ src b, CatalogueBody src b → ∀ s, P s → P (b s).state)
    (hexpire : ∀ s, P s → (∃ p, s.seq.timer = .running p) → P s.expire)
    (hlink : ∀ s k x, P s → s.nextLink = some (k, x) → P (s.stepLink k x))
    (hun : ∀ s rx, P s → s.nextUnplanned = some rx → P (s.stepUnplanned rx))
    {s t : State} (h : step s = .next t) (hs : P s) : P t := by
  unfold step at h
  split at h
  · obtain rfl := Host.Outcome.next.inj h
    exact hs
  · exact exec_preserves hp hreset hbody hexpire hlink hun h (hp s _ s.port s.lines hs)

end Sys2Proof.Machine
end

