-- ==== Sys2Proof/Laws/Tables.lean ====
section
/-!
SUPPORT. What the table operations do: reading after a write, and reading after a change of every record; what the
search for the lowest record says.
-/

namespace Sys2Proof

variable {α β : Type} {n : Nat}

theorem Table.get_set_same [Inhabited α] (t : Table α n) {i : Nat} (h : i < n) (a : α) : (t.set i a).get i = a := by
  have hl : i < t.entries.length := by rw [t.size_eq]; exact h
  simp [Table.get, Table.set, List.getD_eq_getElem?_getD, hl]

theorem Table.get_set_ne [Inhabited α] (t : Table α n) {i j : Nat} (h : i ≠ j) (a : α) :
    (t.set i a).get j = t.get j := by
  simp [Table.get, Table.set, List.getD_eq_getElem?_getD, List.getElem?_set_ne h]

/-- A write outside the table changes nothing. -/
theorem Table.set_outside (t : Table α n) {i : Nat} (h : n ≤ i) (a : α) : t.set i a = t := by
  have hl : t.entries.length ≤ i := by rw [t.size_eq]; exact h
  cases t
  simp only [Table.set, Table.mk.injEq]
  exact List.set_eq_of_length_le hl

theorem Table.get_set [Inhabited α] (t : Table α n) (i j : Nat) (a : α) (h : i < n) :
    (t.set i a).get j = if i = j then a else t.get j := by
  by_cases hij : i = j
  · subst hij; simp [Table.get_set_same t h]
  · simp [hij, Table.get_set_ne t hij]

/-- A read outside the table gives the default record. -/
theorem Table.get_outside [Inhabited α] (t : Table α n) {i : Nat} (h : n ≤ i) : t.get i = default := by
  have hl : t.entries.length ≤ i := by rw [t.size_eq]; exact h
  simp [Table.get, List.getD_eq_getElem?_getD, hl]

@[simp] theorem Table.get_replicate [Inhabited α] (a : α) {i : Nat} (h : i < n) : (Table.replicate n a).get i = a := by
  simp [Table.get, Table.replicate, List.getD_eq_getElem?_getD, h]

/-- A table that holds the default record everywhere reads so everywhere. -/
theorem Table.get_replicate_default [Inhabited α] (n : Nat) (i : Nat) :
    (Table.replicate n (default : α)).get i = default := by
  by_cases h : i < n
  · exact Table.get_replicate _ h
  · exact Table.get_outside _ (Nat.le_of_not_lt h)

theorem Table.get_map [Inhabited α] [Inhabited β] (f : α → β) (t : Table α n) {i : Nat} (h : i < n) :
    (t.map f).get i = f (t.get i) := by
  have hl : i < t.entries.length := by rw [t.size_eq]; exact h
  simp [Table.get, Table.map, List.getD_eq_getElem?_getD, hl]

/-- Reading a changed table anywhere, for a change that keeps the default record. -/
theorem Table.get_map_default [Inhabited α] (f : α → α) (t : Table α n) (i : Nat) (hd : f default = default) :
    (t.map f).get i = f (t.get i) := by
  by_cases h : i < n
  · exact Table.get_map f t h
  · rw [Table.get_outside _ (Nat.le_of_not_lt h), Table.get_outside _ (Nat.le_of_not_lt h), hd]

theorem mapFrom_getElem? (f : Nat → α → β) (k : Nat) (l : List α) (i : Nat) :
    (mapFrom f k l)[i]? = l[i]?.map (f (k + i)) := by
  induction l generalizing k i with
  | nil => simp [mapFrom]
  | cons a l ih =>
    cases i with
    | zero => simp [mapFrom]
    | succ i => simp [mapFrom, ih, Nat.add_assoc, Nat.add_comm 1 i]

theorem Table.get_mapIdx [Inhabited α] [Inhabited β] (f : Nat → α → β) (t : Table α n) {i : Nat} (h : i < n) :
    (t.mapIdx f).get i = f i (t.get i) := by
  have hl : i < t.entries.length := by rw [t.size_eq]; exact h
  simp [Table.get, Table.mapIdx, List.getD_eq_getElem?_getD, mapFrom_getElem?, hl]

/-- Two tables that read alike everywhere are the same table. -/
theorem Table.ext_get [Inhabited α] {t u : Table α n} (h : ∀ i, i < n → t.get i = u.get i) : t = u := by
  cases t with
  | mk l hl =>
    cases u with
    | mk m hm =>
      have : l = m := by
        refine List.ext_getElem (by rw [hl, hm]) fun i h1 h2 => ?_
        have hi := h i (by rw [← hl]; exact h1)
        simpa [Table.get, List.getD_eq_getElem?_getD, h1, h2] using hi
      subst this
      rfl

/-- A record of the table is an entry of its list, and the other way round. -/
theorem Table.mem_entries [Inhabited α] (t : Table α n) (a : α) : a ∈ t.entries ↔ ∃ i, i < n ∧ t.get i = a := by
  constructor
  · intro ha
    obtain ⟨i, hi, rfl⟩ := List.mem_iff_getElem.mp ha
    exact ⟨i, by rw [← t.size_eq]; exact hi, by simp [Table.get, List.getD_eq_getElem?_getD, hi]⟩
  · rintro ⟨i, hi, rfl⟩
    have hl : i < t.entries.length := by rw [t.size_eq]; exact hi
    simp [Table.get, List.getD_eq_getElem?_getD, hl]

theorem firstFrom_eq_some {p : Nat → α → Bool} {k : Nat} {l : List α} {i : Nat} :
    firstFrom p k l = some i →
      k ≤ i ∧ ∃ h : i - k < l.length, p i l[i - k] = true ∧ ∀ j (hj : j < i - k), p (k + j) (l[j]'(by omega)) = false := by
  induction l generalizing k with
  | nil => simp [firstFrom]
  | cons a l ih =>
    intro h
    simp only [firstFrom] at h
    split at h
    · rename_i hp
      obtain rfl : k = i := by simpa using h
      exact ⟨Nat.le_refl _, by simp, by simpa using hp, by simp⟩
    · rename_i hp
      obtain ⟨hk, hlen, hpi, hlow⟩ := ih h
      obtain ⟨m, rfl⟩ : ∃ m, i = k + 1 + m := ⟨i - (k + 1), by omega⟩
      have e1 : k + 1 + m - (k + 1) = m := by omega
      have e2 : k + 1 + m - k = m + 1 := by omega
      simp only [e1] at hlen hpi hlow
      refine ⟨by omega, by simp only [e2, List.length_cons]; omega, by simpa [e2] using hpi, ?_⟩
      intro j hj
      cases j with
      | zero => simpa using hp
      | succ j =>
        have := hlow j (by omega)
        simpa [Nat.add_assoc, Nat.add_comm 1 j] using this

theorem firstFrom_eq_none {p : Nat → α → Bool} {k : Nat} {l : List α} :
    firstFrom p k l = none ↔ ∀ i (h : i < l.length), p (k + i) l[i] = false := by
  induction l generalizing k with
  | nil => simp [firstFrom]
  | cons a l ih =>
    simp only [firstFrom]
    split
    · rename_i hp
      simp only [reduceCtorEq, false_iff]
      intro h
      have := h 0 (by simp)
      simp [hp] at this
    · rename_i hp
      rw [ih]
      constructor
      · intro h i hi
        cases i with
        | zero => simpa using hp
        | succ i => simpa [Nat.add_assoc, Nat.add_comm 1 i] using h i (by simpa using hi)
      · intro h i hi
        have := h (i + 1) (by simpa using hi)
        simpa [Nat.add_assoc, Nat.add_comm 1 i] using this

/-- The lowest record that meets a condition: it is in the table, it meets it, and no lower record does. -/
theorem Table.first_eq_some [Inhabited α] {t : Table α n} {p : Nat → α → Bool} {i : Nat} (h : t.first p = some i) :
    i < n ∧ p i (t.get i) = true ∧ ∀ j, j < i → p j (t.get j) = false := by
  obtain ⟨_, hlen, hp, hlow⟩ := firstFrom_eq_some h
  have hlen' : i < t.entries.length := by simpa using hlen
  refine ⟨by rw [← t.size_eq]; exact hlen', by simpa [Table.get, List.getD_eq_getElem?_getD, hlen'] using hp, ?_⟩
  intro j hj
  have hj' : j < t.entries.length := by omega
  have := hlow j (by simpa using hj)
  simpa [Table.get, List.getD_eq_getElem?_getD, hj'] using this

/-- No record meets the condition. -/
theorem Table.first_eq_none [Inhabited α] {t : Table α n} {p : Nat → α → Bool} :
    t.first p = none ↔ ∀ i, i < n → p i (t.get i) = false := by
  rw [Table.first, firstFrom_eq_none]
  constructor
  · intro h i hi
    have hl : i < t.entries.length := by rw [t.size_eq]; exact hi
    simpa [Table.get, List.getD_eq_getElem?_getD, hl] using h i hl
  · intro h i hi
    have := h i (by rw [← t.size_eq]; exact hi)
    simpa [Table.get, List.getD_eq_getElem?_getD, hi] using this

theorem Table.count_eq_zero [Inhabited α] {t : Table α n} {p : α → Bool} :
    t.count p = 0 ↔ ∀ i, i < n → p (t.get i) = false := by
  rw [Table.count, List.countP_eq_zero]
  constructor
  · intro h i hi
    have := h (t.get i) ((Table.mem_entries t _).mpr ⟨i, hi, rfl⟩)
    simpa using this
  · intro h a ha
    obtain ⟨i, hi, rfl⟩ := (Table.mem_entries t a).mp ha
    simp [h i hi]

theorem Table.count_pos [Inhabited α] {t : Table α n} {p : α → Bool} :
    0 < t.count p ↔ ∃ i, i < n ∧ p (t.get i) = true := by
  rw [Table.count, List.countP_pos_iff]
  constructor
  · rintro ⟨a, ha, hp⟩
    obtain ⟨i, hi, rfl⟩ := (Table.mem_entries t a).mp ha
    exact ⟨i, hi, hp⟩
  · rintro ⟨i, hi, hp⟩
    exact ⟨_, (Table.mem_entries t _).mpr ⟨i, hi, rfl⟩, hp⟩

theorem be_length (k v : Nat) : (be k v).length = k := by
  induction k generalizing v with
  | zero => rfl
  | succ k ih => simp [be, ih]

/-- A two-byte field read back from its bytes. -/
theorem halfAt_halfBytes (h : Half) (rest : List Byte) : halfAt (halfBytes h ++ rest) 0 = h := by
  simp only [halfAt, byteAt, halfBytes, List.cons_append, List.nil_append, List.getD_cons_zero, List.getD_cons_succ]
  ext i hi
  simp only [BitVec.getElem_append, BitVec.getElem_extractLsb']
  split
  · simp [BitVec.getLsbD_eq_getElem hi]
  · rename_i h8
    have h : 8 + (i - 8) = i := by omega
    rw [h, BitVec.getLsbD_eq_getElem hi]

end Sys2Proof
end

