-- ==== Sys2Proof/Laws/Work.lean ====
section
/-!
SUPPORT. The work of the owning blocks, said once: `BlockWork` lists every change of state that a request can make, with
the conditions under which it is made, and `body_work` says that the requests of the catalogue make no other.
-/

namespace Sys2Proof.Machine

/-- Every change of state a request of source `src` can make. -/
inductive BlockWork (src : SourceId) (s : State) : State → Prop
  | none : BlockWork src s s
  | seen : BlockWork src s s.setSeen
  | storeLink (f : LinkFields) (k : LossClass) (hw : s.seq.sweep.atRest = true) (hr : linkInRange f = true)
      (hk : classOf f.cls = some k) (ho : overlap s.usedLinks f.id.toNat (linkOf f k) = Option.none) :
      BlockWork src s (s.storeLink f.id.toNat (linkOf f k))
  | removeLink (id : Nat) (hw : s.seq.sweep.atRest = true) (hi : id ≤ 511) : BlockWork src s (s.removeLink id)
  | emptyPlan (hw : s.seq.sweep.atRest = true) : BlockWork src s s.emptyPlan
  | storeClass (k : LossClass) (qreq band : Byte) (hw : s.seq.sweep.atRest = true) :
      BlockWork src s { s with classes := s.classes.set k (clampClass qreq band) }
  | storeTiming (f : TimingFields) (hw : s.seq.sweep.atRest = true) : BlockWork src s { s with timing := timingOf f }
  | enrol (slot lanes : Nat) (hp : isProbe src = true) (hi : slot ≤ 23) (hl : 1 ≤ lanes ∧ lanes ≤ 32)
      (hh : s.heldElsewhere src slot = Option.none) (hr : (s.slots.get slot).state = .empty) :
      BlockWork src s (s.setSlot slot (enrolledRecord src lanes (s.seq.sweep == .arming)))
  | reenrol (slot lanes : Nat) (hi : slot ≤ 23) (hl : 1 ≤ lanes ∧ lanes ≤ 32)
      (ha : (s.slots.get slot).source = some src) (hr : (s.slots.get slot).state = .enrolled) :
      BlockWork src s (s.setSlot slot { s.slots.get slot with lanes := some lanes, pages := 0 })
  | restart (slot : Nat) (hi : slot ≤ 23) (ha : (s.slots.get slot).source = some src)
      (hr : (s.slots.get slot).state = .ready ∨ (s.slots.get slot).state = .excluded) :
      BlockWork src s (s.setSlot slot { s.slots.get slot with state := .lost })
  | restartActive (slot : Nat) (hi : slot ≤ 23) (ha : (s.slots.get slot).source = some src)
      (hr : (s.slots.get slot).state = .active) :
      BlockWork src s (s.setSlot slot { s.slots.get slot with state := .lost }).activeFell
  | contest (slot : Nat) (hp : isProbe src = true) (hi : slot ≤ 23) (ha : (s.slots.get slot).source ≠ some src)
      (hh : s.heldElsewhere src slot = Option.none)
      (hr : (s.slots.get slot).state = .enrolled ∨ (s.slots.get slot).state = .ready ∨
        (s.slots.get slot).state = .excluded ∨ (s.slots.get slot).state = .lost) :
      BlockWork src s (s.setSlot slot ((s.slots.get slot).contested src))
  | contestActive (slot : Nat) (hp : isProbe src = true) (hi : slot ≤ 23) (ha : (s.slots.get slot).source ≠ some src)
      (hh : s.heldElsewhere src slot = Option.none) (hr : (s.slots.get slot).state = .active) :
      BlockWork src s (s.setSlot slot ((s.slots.get slot).contested src)).activeFell
  | leave (slot : Nat) (hr : (s.slots.get slot).state = .enrolled) : BlockWork src s (s.setSlot slot {})
  | release (slot : Nat) (hi : slot ≤ 23)
      (hb : s.seq.sweep.atRest = false → (s.slots.get slot).heldBySweep = false) : BlockWork src s (s.setSlot slot {})
  | addPage (slot page : Nat) (ho : s.slotOf src = some slot) (hw : s.seq.sweep = .arming) :
      BlockWork src s (s.addPage slot page)
  | ready (slot : Nat) (ho : s.slotOf src = some slot) (hw : s.seq.sweep = .arming)
      (hr : (s.slots.get slot).state ≠ .conflict ∧ (s.slots.get slot).state ≠ .lost) :
      BlockWork src s (s.setSlot slot { s.slots.get slot with state := .ready })
  | report (slot n g : Nat) (records : List LaneRecord) (hi : slot ≤ 23) (ha : (s.slots.get slot).source = some src)
      (hr : (s.slots.get slot).state = .active) (hw : s.admitsReports = true) (he : n + 1 = s.seq.epoch)
      (ho : (s.seq.phaseOf n).owed = true) : BlockWork src s (s.takeReport slot n g records)
  | hold (slot granted : Nat) (hr : (s.slots.get slot).state = .active)
      (hw : s.seq.sweep = .settle ∨ s.seq.sweep = .measure) (hg : granted ≤ 8 - s.seq.hold)
      (hl : granted ≤ s.timing.allowance - (s.slots.get slot).holdCharged) : BlockWork src s (s.grantHold slot granted)
  | quiet (slot : Nat) (ho : s.probeSlotOf src = some slot) (hq : s.seq.quietCall = .pending)
      (hr : (s.slots.get slot).owing = true) : BlockWork src s (s.acknowledge slot).quietAnswered
  | start (hw : s.seq.sweep.atRest = true) (hl : s.linkCount ≠ 0) (he : s.enrolledCount ≠ 0) : BlockWork src s s.startSweep
  | abort : BlockWork src s (s.abortSweep .station)
  | continueSettle (hw : s.seq.sweep = .stopped .settle) : BlockWork src s (s.resume .settle)
  | continueMeasure (hw : s.seq.sweep = .stopped .measure) : BlockWork src s (s.resume .measure)
  | continueReduce (hw : s.seq.sweep = .stopped .reduce) : BlockWork src s (s.resume .reduce).startQuietCall
  | clearHalt (o : HaltOrigin) (hw : s.seq.sweep = .halted o) : BlockWork src s (s.answerQuiet.leaveHalt o)
  | campaignReset (hw : s.seq.sweep.atRest = true) : BlockWork src s s.campaignReset
  | releaseFinding (head : QueuedFinding) (rest : List QueuedFinding) (hf : s.findings = head :: rest)
      (hp : s.cursor.pendingFinding = Option.none) : BlockWork src s { s with findings := rest }
  | releaseAndPush (head : QueuedFinding) (rest : List QueuedFinding) (f : Finding) (hf : s.findings = head :: rest)
      (hp : s.cursor.pendingFinding = some f) : BlockWork src s (State.pushPending f { s with findings := rest })

/-- What it takes for the engine to take a link. -/
theorem nextLink_some {s : State} {k : Nat} {x : Link} (h : s.nextLink = some (k, x)) :
    s.seq.sweep.evaluates = true ∧ s.cursor.stage = .links ∧ s.cursor.pendingFinding = none ∧
      s.cursor.position = some k ∧ s.links.get k = some x := by
  unfold State.nextLink at h
  split at h
  · rename_i hw
    split at h
    · rename_i i hp
      cases hl : s.links.get i with
      | none => simp [hl] at h
      | some y =>
        simp only [hl, Option.map_some, Option.some.injEq, Prod.mk.injEq] at h
        exact ⟨hw.1, hw.2.1, hw.2.2, by rw [hp, h.1], by rw [← h.1, hl, h.2]⟩
    · simp at h
  · simp at h

/-- What it takes for the engine to take a receive endpoint. -/
theorem nextUnplanned_some {s : State} {rx : Nat} (h : s.nextUnplanned = some rx) :
    s.seq.sweep.evaluates = true ∧ s.cursor.stage = .unplanned ∧ s.cursor.pendingFinding = none ∧
      s.cursor.position = some rx := by
  unfold State.nextUnplanned at h
  split at h
  · rename_i hw
    exact ⟨hw.1, hw.2.1, hw.2.2, h⟩
  · simp at h

theorem slotOf_lt {s : State} {src : SourceId} {slot : Nat} (h : s.slotOf src = some slot) :
    slot < 24 ∧ (s.slots.get slot).holds src = true :=
  ⟨(Table.first_eq_some h).1, (Table.first_eq_some h).2.1⟩

theorem probeSlotOf_lt {s : State} {src : SourceId} {slot : Nat} (h : s.probeSlotOf src = some slot) :
    slot < 24 ∧ (s.slots.get slot).source = some src :=
  ⟨(Table.first_eq_some h).1, by simpa using (Table.first_eq_some h).2.1⟩

/-- No other slot holds the source. -/
theorem heldElsewhere_none {s : State} {src : SourceId} {slot : Nat} (h : s.heldElsewhere src slot = none) {i : Nat}
    (hi : i < 24) (hne : i ≠ slot) : (s.slots.get i).holds src = false := by
  have := Table.first_eq_none.mp h i hi
  simpa [hne] using this

theorem clampHold_le (h : Nat) : clampHold h ≤ 8 := by unfold clampHold; omega

/-- The requests of the catalogue make no change but those of `BlockWork`. -/
theorem body_work {src : SourceId} {b : State → Answer} (hb : CatalogueBody src b) (s : State) :
    BlockWork src s (b s).state := by
  cases hb with
  | enrol slot lanes hc =>
    unfold enrolBody
    split
    · rename_i hr
      split
      · exact .none
      · rename_i hh
        unfold enrolNamed
        split
        · exact .enrol _ _ hc hr.1 hr.2 hh (by assumption)
        · split
          · rename_i ha
            unfold enrolOwn
            split
            · exact .reenrol _ _ hr.1 hr.2 ha (by assumption)
            · exact .restart _ hr.1 ha (Or.inl (by assumption))
            · exact .restart _ hr.1 ha (Or.inr (by assumption))
            · exact .restartActive _ hr.1 ha (by assumption)
            all_goals exact .none
          · rename_i ha
            unfold enrolOther
            split
            · exact .none
            · exact .contestActive _ hc hr.1 ha hh (by assumption)
            · exact .contest _ hc hr.1 ha hh (Or.inl (by assumption))
            · exact .contest _ hc hr.1 ha hh (Or.inr (Or.inl (by assumption)))
            · exact .contest _ hc hr.1 ha hh (Or.inr (Or.inr (Or.inl (by assumption))))
            · exact .contest _ hc hr.1 ha hh (Or.inr (Or.inr (Or.inr (by assumption))))
            · exact .none
    · exact .none
  | leave hc =>
    unfold leaveBody leaveSlot
    split
    · exact .none
    · split
      · exact .leave _ (by assumption)
      all_goals exact .none
  | fetchDrives page hc =>
    unfold fetchDrivesBody fetchSlot
    split
    · exact .none
    · rename_i slot ho
      split
      · exact .none
      · split
        · exact .none
        · split
          · split
            · exact .addPage slot _ ho (by assumption)
            · exact .none
          · exact .none
  | ready hc =>
    unfold readyBody readySlot
    split
    · exact .none
    · rename_i slot ho
      split
      · exact .none
      · split
        · exact .none
        · split
          · split
            · exact .none
            · split
              · exact .ready slot ho (by assumption) ⟨by assumption, by assumption⟩
              · exact .none
          · exact .none
  | report slot epoch group count records hc =>
    unfold reportBody judgeReport
    split
    · exact .none
    · rename_i h1
      split
      · exact .none
      · split
        · exact .none
        · rename_i h3
          split
          · exact .none
          · rename_i h4
            split
            · exact .none
            · rename_i h5
              split
              · exact .none
              · split
                · simp only [not_or, Bool.not_eq_false, Classical.not_not] at h1 h3 h4
                  exact .report slot.toNat epoch.toNat group.toNat records (by omega) h1.2 h3.1 h3.2 (by omega) h4.2
                · exact .none
  | hold h hc =>
    unfold holdBody holdSlot
    split
    · exact .none
    · rename_i slot ho
      split
      · exact .none
      · split
        · exact .none
        · split
          · rename_i hw
            unfold holdGranted
            dsimp only
            split
            · exact .none
            · refine .hold slot _ hw.2 hw.1 ?_ ?_
              · have := clampHold_le h.toNat
                omega
              · omega
          · exact .none
  | quiet hc =>
    unfold quietBody
    split
    · exact .none
    · rename_i slot ho
      split
      · rename_i hq
        exact .quiet slot ho hq.1 hq.2
      · exact .none
  | status hc =>
    show BlockWork src s (if isStation src then s.setSeen else s)
    split
    · exact .seen
    · exact .none
  | setLink f hc =>
    unfold setLinkBody
    split
    · split
      · split
        · unfold State.offerLink
          split
          · exact .none
          · exact .storeLink f _ (by assumption) (by assumption) (by assumption) (by assumption)
        · exact .none
      · exact .none
    · exact .none
  | dropLink id hc =>
    unfold dropLinkBody
    split
    · split
      · split
        · exact .removeLink _ (by assumption) (by assumption)
        · exact .none
      · exact .none
    · exact .none
  | getLink id hc =>
    unfold getLinkBody
    split
    · split <;> exact .none
    · exact .none
  | clearPlan hc =>
    unfold clearPlanBody
    split
    · exact .emptyPlan (by assumption)
    · exact .none
  | setClass cls qreq band hc =>
    unfold setClassBody
    split
    · split
      · exact .storeClass _ qreq band (by assumption)
      · exact .none
    · exact .none
  | getClass cls hc =>
    unfold getClassBody
    split <;> exact .none
  | setTiming f hc =>
    unfold setTimingBody
    split
    · exact .storeTiming f (by assumption)
    · exact .none
  | getTiming hc => exact .none
  | start hc =>
    unfold startBody startAtRest
    split
    · rename_i hw
      split
      · exact .none
      · rename_i h
        exact .start (by rw [hw]; rfl) (fun e => h (Or.inl e)) fun e => h (Or.inr e)
    · rename_i hw
      split
      · exact .none
      · rename_i h
        exact .start (by rw [hw]; rfl) (fun e => h (Or.inl e)) fun e => h (Or.inr e)
    · rename_i hw
      split
      · exact .none
      · rename_i h
        exact .start (by rw [hw]; rfl) (fun e => h (Or.inl e)) fun e => h (Or.inr e)
    all_goals exact .none
  | abort hc =>
    unfold abortBody
    split
    · exact .none
    · exact .none
    · exact .none
    · exact .none
    all_goals exact .abort
  | continueSweep hc =>
    unfold continueBody
    split
    · exact .continueSettle (by assumption)
    · exact .continueMeasure (by assumption)
    · exact .continueReduce (by assumption)
    all_goals exact .none
  | clearHalt hc =>
    unfold clearHaltBody
    split
    · exact .clearHalt _ (by assumption)
    all_goals exact .none
  | resetCampaign hc =>
    unfold resetCampaignBody
    split
    · exact .campaignReset (by rw [(by assumption : s.seq.sweep = .idle)]; rfl)
    · exact .campaignReset (by rw [(by assumption : s.seq.sweep = .done)]; rfl)
    · exact .campaignReset (by rw [(by assumption : s.seq.sweep = .aborted)]; rfl)
    all_goals exact .none
  | getSlot slot hc =>
    unfold getSlotBody
    split <;> exact .none
  | releaseSlot slot hc =>
    unfold releaseSlotBody
    split
    · split
      · exact .none
      · split
        · exact .none
        · rename_i hb
          refine .release _ (by assumption) fun hw => ?_
          cases hh : (s.slots.get slot.toNat).heldBySweep
          · rfl
          · exact absurd ⟨hw, hh⟩ hb
    · exact .none
  | getObservation rx hc =>
    unfold getObservationBody
    split <;> exact .none
  | getHearers tx hc =>
    unfold getHearersBody
    split <;> exact .none
  | getVerdict id hc =>
    unfold getVerdictBody
    split <;> exact .none
  | peekFinding hc =>
    unfold peekFindingBody
    split <;> exact .none
  | releaseFinding seq hc =>
    unfold releaseFindingBody
    split
    · exact .none
    · split
      · unfold releaseHead
        dsimp only
        split
        · exact .releaseAndPush _ _ _ (by assumption) (by assumption)
        · exact .releaseFinding _ _ (by assumption) (by assumption)
      · exact .none

/-- A property of the blocks that every change a request can make keeps, and every marker and engine step, is kept by
every step. -/
theorem step_keeps {P : State → Prop}
    (hp : ∀ s q p l, P s → P { s with pending := q, port := p, lines := l })
    (hreset : P State.reset)
    (hwork : ∀ src s t, BlockWork src s t → P s → P t)
    (hexpire : ∀ s, P s → (∃ p, s.seq.timer = .running p) → P s.expire)
    (hlink : ∀ s k x, P s → s.nextLink = some (k, x) → P (s.stepLink k x))
    (hun : ∀ s rx, P s → s.nextUnplanned = some rx → P (s.stepUnplanned rx))
    {s t : State} (h : step s = .next t) (hs : P s) : P t :=
  step_preserves hp hreset (fun src _ hb s hs => hwork src s _ (body_work hb s) hs) hexpire hlink hun h hs

/-- The same for a property `Q` that holds on only where another property `P` of the blocks holds before the step. -/
theorem step_keeps_given {P Q : State → Prop}
    (hp : ∀ s q p l, P s → P { s with pending := q, port := p, lines := l })
    (hq : ∀ s q p l, Q s → Q { s with pending := q, port := p, lines := l })
    (hreset : Q State.reset)
    (hwork : ∀ src s t, BlockWork src s t → P s → Q s → Q t)
    (hexpire : ∀ s, P s → Q s → (∃ p, s.seq.timer = .running p) → Q s.expire)
    (hlink : ∀ s k x, P s → Q s → s.nextLink = some (k, x) → Q (s.stepLink k x))
    (hun : ∀ s rx, P s → Q s → s.nextUnplanned = some rx → Q (s.stepUnplanned rx))
    {s t : State} (h : step s = .next t) (hps : P s) (hqs : Q s) : Q t := by
  unfold step at h
  split at h
  · obtain rfl := Host.Outcome.next.inj h
    exact hqs
  · cases exec_cases h with
    | none h =>
      obtain ⟨p, l, rfl⟩ := h
      exact hq s _ p l hqs
    | body src b hb h =>
      obtain ⟨p, l, s', ⟨p', l', rfl⟩, rfl⟩ := h
      exact hq _ _ p l (hwork src _ _ (body_work hb _) (hp s _ p' l' hps) (hq s _ p' l' hqs))
    | reset h =>
      obtain ⟨p, l, rfl⟩ := h
      exact hq _ _ p l hreset
    | expire period ht h =>
      obtain ⟨l, rfl⟩ := h
      exact hq _ _ _ l (hexpire _ (hp s _ s.port _ hps) (hq s _ s.port _ hqs) ⟨period, ht⟩)
    | link k x hn h =>
      obtain ⟨l, rfl⟩ := h
      exact hq _ _ _ l (hlink _ k x (hp s _ s.port _ hps) (hq s _ s.port _ hqs) hn)
    | unplanned rx hn h =>
      obtain ⟨l, rfl⟩ := h
      exact hq _ _ _ l (hun _ rx (hp s _ s.port _ hps) (hq s _ s.port _ hqs) hn)

end Sys2Proof.Machine
end

