-- ==== Sys2Proof/Laws/Plan.lean ====
section
/-!
SUPPORT. The lookups of the plan: what the list of used ids holds, and what the overlap check says (R7, R15).
-/

namespace Sys2Proof.Machine

/-- What the list of used ids holds. -/
theorem usedFrom_mem {k : Nat} {l : List (Option Link)} {i : Nat} {x : Link} :
    (i, x) ∈ usedFrom k l ↔ k ≤ i ∧ l[i - k]? = some (some x) := by
  induction l generalizing k with
  | nil => simp [usedFrom]
  | cons a l ih =>
    have hstep : ∀ i, (k + 1 ≤ i ∧ l[i - (k+1)]? = some (some x)) ↔ (k < i ∧ (a :: l)[i - k]? = some (some x)) := by
      intro i
      constructor
      · rintro ⟨h1, h2⟩
        obtain ⟨m, rfl⟩ : ∃ m, i = k + 1 + m := ⟨i - (k+1), by omega⟩
        refine ⟨by omega, ?_⟩
        have : k + 1 + m - k = m + 1 := by omega
        rw [this]; simpa using h2
      · rintro ⟨h1, h2⟩
        obtain ⟨m, rfl⟩ : ∃ m, i = k + 1 + m := ⟨i - (k+1), by omega⟩
        refine ⟨by omega, ?_⟩
        have : k + 1 + m - k = m + 1 := by omega
        rw [this] at h2; simpa using h2
    cases a with
    | none =>
      simp only [usedFrom]
      rw [ih, hstep]
      constructor
      · rintro ⟨h1, h2⟩; exact ⟨by omega, h2⟩
      · rintro ⟨h1, h2⟩
        rcases Nat.lt_or_eq_of_le h1 with h | rfl
        · exact ⟨h, h2⟩
        · simp at h2
    | some y =>
      simp only [usedFrom, List.mem_cons]
      rw [ih, hstep]
      constructor
      · rintro (h | ⟨h1, h2⟩)
        · cases h; simp
        · exact ⟨by omega, h2⟩
      · rintro ⟨h1, h2⟩
        rcases Nat.lt_or_eq_of_le h1 with h | rfl
        · exact Or.inr ⟨h, h2⟩
        · simp at h2; subst h2; exact Or.inl rfl

/-- The used ids are those that hold a record (R15). -/
theorem usedLinks_mem {s : State} {i : Nat} {x : Link} : (i, x) ∈ s.usedLinks ↔ s.links.get i = some x := by
  unfold State.usedLinks
  rw [usedFrom_mem]
  simp only [Table.get, List.getD_eq_getElem?_getD, Nat.zero_le, true_and, Nat.sub_zero]
  cases s.links.entries[i]? with
  | none => simp
  | some v => simp

/-- A record that passes the overlap check meets no other link on either side (R7). -/
theorem overlap_none {plan : List (Nat × Link)} {id : Nat} {l : Link} (h : overlap plan id l = none) :
    ∀ p ∈ plan, p.1 ≠ id → spansMeet l.rxStart l.width p.2.rxStart p.2.width = false ∧
      spansMeet l.txStart l.width p.2.txStart p.2.width = false := by
  unfold overlap at h
  split at h
  · simp at h
  · rename_i h1
    simp only [Option.map_eq_none_iff] at h
    simp only [rxConflict, Option.map_eq_none_iff] at h1
    simp only [txConflict, Option.map_eq_none_iff] at h
    intro p hp hne
    have a := List.find?_eq_none.mp h1 p hp
    have b := List.find?_eq_none.mp h p hp
    simp [hne] at a b
    exact ⟨a, b⟩

/-- A table of empty records reads empty everywhere. -/
theorem links_empty (i : Nat) : (Table.replicate Config.linkIds (none : Option Link)).get i = none :=
  Table.get_replicate_default Config.linkIds i

theorem verdicts_empty (i : Nat) : (Table.replicate Config.linkIds ({} : VerdictRecord)).get i = {} :=
  Table.get_replicate_default Config.linkIds i

theorem slots_empty (i : Nat) : (Table.replicate Config.slots ({} : SlotRecord)).get i = {} :=
  Table.get_replicate_default Config.slots i

theorem windows_empty (i : Nat) : (Table.replicate Config.slots ({} : ReportWindow)).get i = {} :=
  Table.get_replicate_default Config.slots i

theorem observations_empty (i : Nat) : (Table.replicate Config.endpoints ({} : Observation)).get i = {} :=
  Table.get_replicate_default Config.endpoints i

theorem hearing_empty (i : Nat) : (Table.replicate Config.endpoints ({} : Hearers)).get i = {} :=
  Table.get_replicate_default Config.endpoints i

end Sys2Proof.Machine
end

