-- ==== Sys2Proof/Laws/Pass.lean ====
section
/-!
SUPPORT. What the pass over a plan can find: no lane record and no marker changes a planned link (R105), and the links
and the unplanned receive endpoints together number at most 768 (R164).
-/

namespace Sys2Proof.Machine

-- ==== The planned link is kept (R105) ====

/-- A lane record leaves the planned link. -/
@[simp] theorem Observation.apply_planned (generation : Nat) (measure : Bool) (r : LaneRecord) (o : Observation) :
    (o.apply generation measure r).planned = o.planned := by
  unfold Observation.apply Observation.judge Observation.accumulate Observation.addSkew Observation.addErrors
    Observation.addUnits Observation.drop Observation.track Observation.run Observation.see
  dsimp only
  repeat' split
  all_goals rfl

/-- A lane record applied leaves every planned link. -/
@[simp] theorem State.applyRecord_planned (measure : Bool) (rx : Nat) (r : LaneRecord) (s : State) (e : Nat) :
    ((s.applyRecord measure rx r).observations.get e).planned = (s.observations.get e).planned := by
  have h : (s.applyRecord measure rx r).observations =
      s.observations.set rx ((s.observations.get rx).apply s.generation measure r) := by
    unfold State.applyRecord State.hear
    dsimp only
    split <;> rfl
  rw [h]
  by_cases hr : rx < Config.endpoints
  · rw [Table.get_set _ _ _ _ hr]
    split
    · rename_i he
      subst he
      simp
    · rfl
  · rw [Table.set_outside _ (by omega)]

/-- A report taken leaves every planned link. -/
@[simp] theorem State.takeReport_planned (slot n g : Nat) (records : List LaneRecord) (s : State) (e : Nat) :
    ((s.takeReport slot n g records).observations.get e).planned = (s.observations.get e).planned := by
  unfold State.takeReport State.applyRecords
  generalize (s.seq.phaseOf n == .measure) = m
  show _ = (({ s with windows := s.windows.set slot ((s.windows.get slot).take g records) } : State).observations.get
    e).planned
  generalize ({ s with windows := s.windows.set slot ((s.windows.get slot).take g records) } : State) = t
  induction records generalizing t with
  | nil => rfl
  | cons r l ih => rw [List.foldl_cons, ih, State.applyRecord_planned]

/-- Gap counting leaves every planned link. -/
@[simp] theorem State.countGaps_planned (s : State) (e : Nat) :
    (s.countGaps.observations.get e).planned = (s.observations.get e).planned := by
  unfold State.countGaps
  dsimp only
  by_cases h : e < Config.endpoints
  · rw [Table.get_mapIdx _ _ h]
    split <;> rfl
  · rw [Table.get_outside _ (by omega), Table.get_outside _ (by omega)]

/-- A marker's bookkeeping leaves every planned link. -/
@[simp] theorem State.bookkeep_planned (s : State) (e : Nat) :
    (s.bookkeep.observations.get e).planned = (s.observations.get e).planned := by
  unfold State.bookkeep
  split
  · split
    · rfl
    · exact State.countGaps_planned s e
    · rfl
    · rfl
  · rfl

-- ==== The links and the unplanned endpoints (R164) ====

/-- The used ids below `k + 1`. -/
theorem State.linksBelow_succ (s : State) (k : Nat) :
    s.linksBelow (k + 1) = s.linksBelow k + (if (s.links.get k).isSome then 1 else 0) := by
  unfold State.linksBelow
  rw [List.range_succ, List.countP_append]
  simp

/-- The unplanned receive endpoints below `e + 1`. -/
theorem State.unplannedBelow_succ (s : State) (e : Nat) :
    s.unplannedBelow (e + 1) = s.unplannedBelow e + (if (s.observations.get e).planned.isNone then 1 else 0) := by
  unfold State.unplannedBelow
  rw [List.range_succ, List.countP_append]
  simp

/-- The used ids below a greater bound are at least as many. -/
theorem State.linksBelow_mono (s : State) {j k : Nat} (h : j ≤ k) : s.linksBelow j ≤ s.linksBelow k := by
  induction h with
  | refl => exact Nat.le_refl _
  | step _ ih => rw [State.linksBelow_succ]; omega

/-- The unplanned endpoints below a greater bound are at least as many. -/
theorem State.unplannedBelow_mono (s : State) {j k : Nat} (h : j ≤ k) : s.unplannedBelow j ≤ s.unplannedBelow k := by
  induction h with
  | refl => exact Nat.le_refl _
  | step _ ih => rw [State.unplannedBelow_succ]; omega

/-- A list that an injection embeds in another with no duplicates left over is no longer. -/
theorem length_le_of_map {α β : Type} [DecidableEq β] (f : α → β) {l : List α} {m : List β} (hl : (l.map f).Nodup)
    (hm : ∀ a ∈ l, f a ∈ m) : l.length ≤ m.length := by
  have h : (l.map f).Subperm m := hl.subperm (by
    intro b hb
    obtain ⟨a, ha, rfl⟩ := List.mem_map.1 hb
    exact hm a ha)
  simpa using h.length_le

/-- Every link has a planned receive endpoint of its own, so the links and the unplanned receive endpoints number at most
768 while a sweep is on (R164). -/
theorem State.PlanOk.room {s : State} (h : s.PlanOk) (hp : s.PlannedOk) (hw : s.seq.sweep.atRest = false) :
    s.linksBelow 512 + s.unplannedBelow 768 ≤ 768 := by
  let base : Nat → Nat := fun k => ((s.links.get k).map Link.rxStart).getD 0
  have own : ∀ k, (s.links.get k).isSome = true →
      base k < 768 ∧ (s.observations.get (base k)).planned = some { link := k, lane := 0 } := by
    intro k hk
    obtain ⟨l, hl⟩ := Option.isSome_iff_exists.1 hk
    have hr := h.inRange k l hl
    have hb : base k = l.rxSlot * 32 + l.rxBase := by simp [base, hl, Link.rxStart, endpoint]
    have h1 := hr.rxSlot
    have h2 := hr.rxSpan
    have h3 := hr.width
    refine ⟨by omega, (hp hw _ _ _ (by omega)).2 ⟨l, hl, by omega, by omega⟩⟩
  have hlinks : s.linksBelow 512 ≤ ((List.range 768).filter fun e => (s.observations.get e).planned.isSome).length := by
    unfold State.linksBelow
    rw [List.countP_eq_length_filter]
    refine length_le_of_map base ?_ ?_
    · refine (List.Nodup.filter _ List.nodup_range).map_on ?_
      intro j hj k hk e
      have hj := (own j (List.mem_filter.1 hj).2).2
      have hk := (own k (List.mem_filter.1 hk).2).2
      rw [e, hk] at hj
      exact (congrArg PlannedLane.link (Option.some.inj hj)).symm
    · intro k hk
      have := own k (List.mem_filter.1 hk).2
      simp [this.1, this.2]
  have hsum : ((List.range 768).filter fun e => (s.observations.get e).planned.isSome).length + s.unplannedBelow 768 = 768 := by
    unfold State.unplannedBelow
    rw [← List.countP_eq_length_filter]
    have := List.length_eq_countP_add_countP (fun e => (s.observations.get e).planned.isSome) (l := List.range 768)
    rw [List.length_range] at this
    have hn : (fun e => (s.observations.get e).planned.isNone) =
        fun e => decide ¬ ((s.observations.get e).planned.isSome = true) := by
      funext e
      cases (s.observations.get e).planned <;> rfl
    rw [hn]
    omega
  omega

end Sys2Proof.Machine
end

