-- ==== Sys2Proof/Laws/Wire.lean ====
section
/-!
SUPPORT. Bytes and fields: the fields of a request read back from the bytes that carry them, and the lengths of the
payloads (R176, R184, R187).
-/

namespace Sys2Proof.Machine

theorem byteAt_append_left {l m : List Byte} {i : Nat} (h : i < l.length) : byteAt (l ++ m) i = byteAt l i := by
  simp [byteAt, List.getD_eq_getElem?_getD, List.getElem?_append_left h]

theorem byteAt_append_right {l m : List Byte} {i : Nat} (h : l.length ≤ i) :
    byteAt (l ++ m) i = byteAt m (i - l.length) := by
  simp [byteAt, List.getD_eq_getElem?_getD, List.getElem?_append_right h]

theorem half_join (h : Half) : (h.extractLsb' 8 8 ++ h.extractLsb' 0 8 : BitVec 16) = h := by
  have := halfAt_halfBytes h []
  simpa [halfAt, byteAt, halfBytes] using this

theorem word_join (w : Word) : (w.extractLsb' 16 16 ++ w.extractLsb' 0 16 : BitVec 32) = w := by
  ext i hi
  simp only [BitVec.getElem_append, BitVec.getElem_extractLsb']
  split
  · simp [BitVec.getLsbD_eq_getElem hi]
  · have h : 16 + (i - 16) = i := by omega
    rw [h, BitVec.getLsbD_eq_getElem hi]

/-- A two-byte field of a request is read back from its bytes. -/
@[simp] theorem halfAt_half (h : Half) (rest : List Byte) :
    halfAt (h.extractLsb' 8 8 :: h.extractLsb' 0 8 :: rest) 0 = h := by
  simp only [halfAt, byteAt, List.getD_cons_zero, List.getD_cons_succ]
  exact half_join h

theorem byteAt_drop (l : List Byte) (k i : Nat) : byteAt (l.drop k) i = byteAt l (k + i) := by
  simp [byteAt, List.getD_eq_getElem?_getD]

/-- A field further on is the first field of what is left. -/
theorem halfAt_drop (l : List Byte) (k : Nat) : halfAt l k = halfAt (l.drop k) 0 := by
  simp [halfAt, byteAt_drop]

theorem wordAt_drop (l : List Byte) (k : Nat) : wordAt l k = wordAt (l.drop k) 0 := by
  unfold wordAt
  rw [halfAt_drop l k, halfAt_drop l (k + 2), halfAt_drop (l.drop k) (0 + 2), List.drop_drop]

/-- A four-byte field is read back from its bytes. -/
theorem wordAt_wordBytes (w : Word) (rest : List Byte) : wordAt (wordBytes w ++ rest) 0 = w := by
  have h1 : halfAt (wordBytes w ++ rest) 0 = w.extractLsb' 16 16 := halfAt_half _ _
  have h2 : halfAt (wordBytes w ++ rest) 2 = w.extractLsb' 0 16 :=
    (halfAt_drop _ 2).trans (halfAt_half _ _)
  unfold wordAt
  rw [h1, h2]
  exact word_join w

@[simp] theorem parseLink_linkBytes (f : LinkFields) : parseLink (linkBytes f) = f := by
  cases f
  simp [parseLink, linkBytes, halfBytes, byteAt]

theorem parseTiming_timingBytes (f : TimingFields) : parseTiming (timingBytes f) = f := by
  obtain ⟨p, a, w, m, al, st⟩ := f
  have h0 : halfAt (timingBytes ⟨p, a, w, m, al, st⟩) 0 = p := halfAt_half _ _
  have h2 : halfAt (timingBytes ⟨p, a, w, m, al, st⟩) 2 = a :=
    (halfAt_drop _ 2).trans (halfAt_half _ _)
  have h4 : halfAt (timingBytes ⟨p, a, w, m, al, st⟩) 4 = w :=
    (halfAt_drop _ 4).trans (halfAt_half _ _)
  have h6 : halfAt (timingBytes ⟨p, a, w, m, al, st⟩) 6 = m :=
    (halfAt_drop _ 6).trans (halfAt_half _ _)
  unfold parseTiming
  rw [h0, h2, h4, h6]
  rfl

@[simp] theorem recordBytes_length (r : LaneRecord) : (recordBytes r).length = 15 := rfl

theorem recordByte_lane (l : Bool) (n : BitVec 5) :
    (BitVec.ofBool l ++ (0 : BitVec 2) ++ n : BitVec 8).extractLsb' 0 5 = n := by
  revert l n
  decide

theorem recordByte_lock (l : Bool) (n : BitVec 5) : (BitVec.ofBool l ++ (0 : BitVec 2) ++ n : BitVec 8).msb = l := by
  revert l n
  decide

/-- A lane record is read back from its bytes, whatever follows them. -/
theorem parseRecord_recordBytes (r : LaneRecord) (rest : List Byte) : parseRecord (recordBytes r ++ rest) = r := by
  obtain ⟨lane, lock, raw, units, errors, skew⟩ := r
  have h1 : wordAt (recordBytes ⟨lane, lock, raw, units, errors, skew⟩ ++ rest) 1 = raw :=
    (wordAt_drop _ 1).trans (wordAt_wordBytes raw _)
  have h5 : wordAt (recordBytes ⟨lane, lock, raw, units, errors, skew⟩ ++ rest) 5 = units :=
    (wordAt_drop _ 5).trans (wordAt_wordBytes units _)
  have h9 : wordAt (recordBytes ⟨lane, lock, raw, units, errors, skew⟩ ++ rest) 9 = errors :=
    (wordAt_drop _ 9).trans (wordAt_wordBytes errors _)
  have h13 : halfAt (recordBytes ⟨lane, lock, raw, units, errors, skew⟩ ++ rest) 13 = skew :=
    (halfAt_drop _ 13).trans (halfAt_half _ _)
  have hl : (byteAt (recordBytes ⟨lane, lock, raw, units, errors, skew⟩ ++ rest) 0).extractLsb' 0 5 = lane :=
    recordByte_lane lock lane
  have hk : (byteAt (recordBytes ⟨lane, lock, raw, units, errors, skew⟩ ++ rest) 0).msb = lock := recordByte_lock lock lane
  unfold parseRecord
  rw [h1, h5, h9, h13, hl, hk]

theorem parseRecords_flatMap (l : List LaneRecord) : parseRecords l.length (l.flatMap recordBytes) = l := by
  induction l with
  | nil => rfl
  | cons r l ih =>
    simp only [List.length_cons, parseRecords, List.flatMap_cons]
    rw [parseRecord_recordBytes]
    have : (recordBytes r ++ l.flatMap recordBytes).drop 15 = l.flatMap recordBytes := rfl
    rw [this, ih]

theorem flatMap_recordBytes_length (l : List LaneRecord) : (l.flatMap recordBytes).length = 15 * l.length := by
  induction l with
  | nil => rfl
  | cons r l ih => simp [List.flatMap_cons, ih]; omega

end Sys2Proof.Machine
end

