-- ==== Sys2Proof/Laws/PerInstr.lean ====
section
/-!
SUPPORT. Per command: a request command does what the frame that carries it does. For every request the bytes of its
frame's payload name, in the catalogue, the request itself.
-/

namespace Sys2Proof.Laws.Routed

open Sys2Proof.Machine

/-- A well-formed request command acts as its frame does: judged under the code and the payload that the frame carries,
as the catalogue reads them (R176, R181, R184). -/
def Statement (i : Instr) : Prop :=
  i.WellFormed → ∀ rq code payload, requestOf i = some (rq, code, payload) →
    ∀ s, exec i s = .next (s.deliver rq (catalogue rq.source code payload) payload.length)

/-- A frame that fails the length check is answered alike whatever its fields are. -/
theorem deliver_badLength {e e' : Entry} (hc : e.cls = e'.cls) (h : e.lengthOk = false) (h' : e'.lengthOk = false)
    (s : State) (rq : Requester) (n : Nat) : s.deliver rq (some e) n = s.deliver rq (some e') n := by
  have hj : ∀ t, judge rq.source (some e) t = judge rq.source (some e') t := by
    intro t
    simp only [judge, hc, h, h', Bool.false_eq_true, if_false]
  unfold State.deliver State.completeFrame
  simp only [hj]

theorem deviceReset : Statement (.deviceReset) := fun _ _ _ _ h => by simp [requestOf] at h

theorem transactionStart : Statement (.transactionStart) := fun _ _ _ _ h => by simp [requestOf] at h

theorem repeatedStart : Statement (.repeatedStart) := fun _ _ _ _ h => by simp [requestOf] at h

theorem stop : Statement (.stop) := fun _ _ _ _ h => by simp [requestOf] at h

theorem addressByte (d : Byte) (p : Bool) : Statement (.addressByte d p) := fun _ _ _ _ h => by simp [requestOf] at h

theorem writeByte (d : Byte) (p : Bool) : Statement (.writeByte d p) := fun _ _ _ _ h => by simp [requestOf] at h

theorem excessByte (d : Byte) (p : Bool) : Statement (.excessByte d p) := fun _ _ _ _ h => by simp [requestOf] at h

theorem epochTimerExpiry : Statement (.epochTimerExpiry) := fun _ _ _ _ h => by simp [requestOf] at h

theorem linkEvaluationStep : Statement (.linkEvaluationStep) := fun _ _ _ _ h => by simp [requestOf] at h

theorem unplannedScanStep : Statement (.unplannedScanStep) := fun _ _ _ _ h => by simp [requestOf] at h

theorem replyByte (m : Bool) : Statement (.replyByte m) := fun _ _ _ _ h => by simp [requestOf] at h

theorem resetnRelease (a b : Bool) : Statement (.resetnRelease a b) := fun _ _ _ _ h => by simp [requestOf] at h

theorem unknownRequest (rq : Requester) (code : BitVec 7) (payload : List Byte) : Statement (.unknownRequest rq code payload) := by
  intro _ rq' code p h s
  cases Option.some.inj h
  rfl

theorem enrol (rq : Requester) (slot lanes : Byte) : Statement (.enrol rq slot lanes) := by
  intro _ rq' code p h s
  cases Option.some.inj h
  rfl

theorem leave (rq : Requester) : Statement (.leave rq) := by
  intro _ rq' code p h s
  cases Option.some.inj h
  rfl

theorem fetchDrives (rq : Requester) (page : Byte) : Statement (.fetchDrives rq page) := by
  intro _ rq' code p h s
  cases Option.some.inj h
  rfl

theorem ready (rq : Requester) : Statement (.ready rq) := by
  intro _ rq' code p h s
  cases Option.some.inj h
  rfl

theorem hold (rq : Requester) (h : Byte) : Statement (.hold rq h) := by
  intro _ rq' code p h s
  cases Option.some.inj h
  rfl

theorem quiet (rq : Requester) : Statement (.quiet rq) := by
  intro _ rq' code p h s
  cases Option.some.inj h
  rfl

theorem status (rq : Requester) : Statement (.status rq) := by
  intro _ rq' code p h s
  cases Option.some.inj h
  rfl

theorem clearPlan (rq : Requester) : Statement (.clearPlan rq) := by
  intro _ rq' code p h s
  cases Option.some.inj h
  rfl

theorem setClass (rq : Requester) (cls qreq band : Byte) : Statement (.setClass rq cls qreq band) := by
  intro _ rq' code p h s
  cases Option.some.inj h
  rfl

theorem getClass (rq : Requester) (cls : Byte) : Statement (.getClass rq cls) := by
  intro _ rq' code p h s
  cases Option.some.inj h
  rfl

theorem getTiming (rq : Requester) : Statement (.getTiming rq) := by
  intro _ rq' code p h s
  cases Option.some.inj h
  rfl

theorem start (rq : Requester) : Statement (.start rq) := by
  intro _ rq' code p h s
  cases Option.some.inj h
  rfl

theorem abort (rq : Requester) : Statement (.abort rq) := by
  intro _ rq' code p h s
  cases Option.some.inj h
  rfl

theorem continueSweep (rq : Requester) : Statement (.continueSweep rq) := by
  intro _ rq' code p h s
  cases Option.some.inj h
  rfl

theorem clearHalt (rq : Requester) : Statement (.clearHalt rq) := by
  intro _ rq' code p h s
  cases Option.some.inj h
  rfl

theorem resetCampaign (rq : Requester) : Statement (.resetCampaign rq) := by
  intro _ rq' code p h s
  cases Option.some.inj h
  rfl

theorem getSlot (rq : Requester) (slot : Byte) : Statement (.getSlot rq slot) := by
  intro _ rq' code p h s
  cases Option.some.inj h
  rfl

theorem releaseSlot (rq : Requester) (slot : Byte) : Statement (.releaseSlot rq slot) := by
  intro _ rq' code p h s
  cases Option.some.inj h
  rfl

theorem peekFinding (rq : Requester) : Statement (.peekFinding rq) := by
  intro _ rq' code p h s
  cases Option.some.inj h
  rfl

theorem dropLink (rq : Requester) (id : Half) : Statement (.dropLink rq id) := by
  intro _ rq' code p h s
  cases Option.some.inj h
  have h : catalogue rq.source 0x21 (halfBytes id) = some (dropLinkEntry (halfAt (halfBytes id) 0)) := rfl
  have hv : halfAt (halfBytes id) 0 = id := halfAt_half id []
  rw [h, hv]
  rfl

theorem getLink (rq : Requester) (id : Half) : Statement (.getLink rq id) := by
  intro _ rq' code p h s
  cases Option.some.inj h
  have h : catalogue rq.source 0x22 (halfBytes id) = some (getLinkEntry (halfAt (halfBytes id) 0)) := rfl
  have hv : halfAt (halfBytes id) 0 = id := halfAt_half id []
  rw [h, hv]
  rfl

theorem getObservation (rq : Requester) (rx : Half) : Statement (.getObservation rq rx) := by
  intro _ rq' code p h s
  cases Option.some.inj h
  have h : catalogue rq.source 0x42 (halfBytes rx) = some (getObservationEntry (halfAt (halfBytes rx) 0)) := rfl
  have hv : halfAt (halfBytes rx) 0 = rx := halfAt_half rx []
  rw [h, hv]
  rfl

theorem getHearers (rq : Requester) (tx : Half) : Statement (.getHearers rq tx) := by
  intro _ rq' code p h s
  cases Option.some.inj h
  have h : catalogue rq.source 0x43 (halfBytes tx) = some (getHearersEntry (halfAt (halfBytes tx) 0)) := rfl
  have hv : halfAt (halfBytes tx) 0 = tx := halfAt_half tx []
  rw [h, hv]
  rfl

theorem getVerdict (rq : Requester) (id : Half) : Statement (.getVerdict rq id) := by
  intro _ rq' code p h s
  cases Option.some.inj h
  have h : catalogue rq.source 0x44 (halfBytes id) = some (getVerdictEntry (halfAt (halfBytes id) 0)) := rfl
  have hv : halfAt (halfBytes id) 0 = id := halfAt_half id []
  rw [h, hv]
  rfl

theorem releaseFinding (rq : Requester) (seq : Half) : Statement (.releaseFinding rq seq) := by
  intro _ rq' code p h s
  cases Option.some.inj h
  have h : catalogue rq.source 0x49 (halfBytes seq) = some (releaseFindingEntry (halfAt (halfBytes seq) 0)) := rfl
  have hv : halfAt (halfBytes seq) 0 = seq := halfAt_half seq []
  rw [h, hv]
  rfl

theorem setLink (rq : Requester) (f : LinkFields) : Statement (.setLink rq f) := by
  intro _ rq' code p h s
  cases Option.some.inj h
  have h : catalogue rq.source 0x20 (linkBytes f) = some (setLinkEntry (parseLink (linkBytes f))) := rfl
  rw [h, parseLink_linkBytes]
  rfl

theorem setTiming (rq : Requester) (f : TimingFields) : Statement (.setTiming rq f) := by
  intro _ rq' code p h s
  cases Option.some.inj h
  have h : catalogue rq.source 0x26 (timingBytes f) = some (setTimingEntry (parseTiming (timingBytes f))) := rfl
  rw [h, parseTiming_timingBytes]
  rfl

theorem report (rq : Requester) (slot : Byte) (epoch : Half) (group count : Byte) (records : List LaneRecord) : Statement (.report rq slot epoch group count records) := by
  intro _ rq' code p h s
  cases Option.some.inj h
  generalize hp : [slot] ++ halfBytes epoch ++ [group, count] ++ records.flatMap recordBytes = p
  have hlen : p.length = 5 + 15 * records.length := by
    rw [← hp]
    simp only [List.length_append, flatMap_recordBytes_length, halfBytes, List.length_cons, List.length_nil]
  have h0 : byteAt p 0 = slot := by rw [← hp]; rfl
  have h1 : halfAt p 1 = epoch := by rw [← hp]; exact (halfAt_drop _ 1).trans (halfAt_half _ _)
  have h3 : byteAt p 3 = group := by rw [← hp]; rfl
  have h4 : byteAt p 4 = count := by rw [← hp]; rfl
  have h5 : p.drop 5 = records.flatMap recordBytes := by rw [← hp]; rfl
  have hcat : catalogue rq.source 0x05 p = some (reportFrom rq.source p) := rfl
  rw [hcat, hlen]
  show Host.Outcome.next (s.deliver rq (some (reportEntry rq.source slot epoch group count records)) _) = _
  congr 1
  by_cases hc : records.length = count.toNat
  · have hr : parseRecords count.toNat (p.drop 5) = records := by rw [h5, ← hc]; exact parseRecords_flatMap records
    have he : reportFrom rq.source p = reportEntry rq.source slot epoch group count records := by
      unfold reportFrom
      rw [h4, h0, h1, h3, hr, hlen, ← hc]
      simp [reportEntry, hc]
    rw [he]
  · refine deliver_badLength (e := reportEntry rq.source slot epoch group count records) (e' := reportFrom rq.source p)
      rfl ?_ ?_ s rq _
    · simpa [reportEntry] using hc
    · simp [reportFrom, hlen, h4]
      omega

end Sys2Proof.Laws.Routed
end

