-- ==== Sys2Proof/Tests/Slice0.lean ====
section
/-!
SUPPORT. The checks of this package: ill-formed commands, the spec's worked examples, one small test of each family of
commands, and for every statement with hypotheses a state and operands that meet them, clause by clause.
-/

namespace Sys2Proof.Tests

-- one theorem after another: these evaluations need no threads of their own
set_option Elab.async false

open Sys2Proof Sys2Proof.Machine

-- ==== Small states ====

/-- A station. -/
def station : Requester := ⟨0x70, false⟩

/-- A probe. -/
def probe : Requester := ⟨0x01, false⟩

/-- The part after reset with another sweep state. -/
def inSweep (w : SweepState) : State := { State.reset with seq := { sweep := w, timer := .running 100 } }

/-- A state with one slot record changed. -/
def withSlot (k : Nat) (r : SlotRecord) (s : State) : State := { s with slots := s.slots.set k r }

/-- A state with one link record changed. -/
def withLink (k : Nat) (l : Link) (s : State) : State := { s with links := s.links.set k (some l) }

/-- A state with one observation record changed. -/
def withRecord (e : Nat) (o : Observation) (s : State) : State := { s with observations := s.observations.set e o }

/-- The part after reset with another port. -/
def onBus (p : Port) : State := { State.reset with port := p }

/-- A slot held by the probe, in a given state, with eight lanes. -/
def heldSlot (r : RosterState) : SlotRecord :=
  { state := r, source := some 0x01, lanes := some 8, participating := r != .enrolled, activated := r == .active }

/-- A slot of another probe. -/
def otherSlot (r : RosterState) : SlotRecord := { heldSlot r with source := some 0x02 }

/-- The last link of the table: slot 23's last eight lanes to themselves. -/
def lastLink : Link :=
  { txSlot := 23, txBase := 24, rxSlot := 23, rxBase := 24, width := 8, lossClass := .d, reversal := true, polarity := true,
    budget := some 255 }

/-- A link of slot 0. -/
def firstLink : Link :=
  { txSlot := 0, txBase := 0, rxSlot := 0, rxBase := 0, width := 2, lossClass := .a, reversal := false, polarity := false,
    budget := none }

/-- The part after reset with the last link under the last id. -/
def planned : State := withLink 511 lastLink State.reset

/-- The offer of the last link under an id. -/
def offer (id : Half) : LinkFields :=
  { id := id, txSlot := 23, txBase := 24, rxSlot := 23, rxBase := 24, width := 8, cls := 3, flags := 0x07, budget := 255 }

/-- An OK reply. -/
def okReply : Reply := { result := .ok, phase := 0, epoch := 0, payload := [7], check := false }

/-- The result code and the payload of the reply a command leaves. -/
def replyOf (o : StepOutcome) : Option (Result × List Byte) :=
  match o with
  | .next s => s.port.reply.map fun r => (r.result, r.payload)
  | .fault _ => none
  | .refused _ => none

/-- What holds of the next state of a command. -/
def nextHas (p : State → Bool) (o : StepOutcome) : Bool :=
  match o with
  | .next s => p s
  | .fault _ => false
  | .refused _ => false

/-- The commands of a list run one after another. -/
def run : List Instr → State → StepOutcome
  | [], s => .next s
  | c :: l, s =>
    match exec c s with
    | .next t => run l t
    | o => o

-- ==== Ill-formed commands ====

theorem test_wellFormed_refuses_catalogue_code : (Instr.unknownRequest station 0x49 []).wellFormed = false := by decide

theorem test_wellFormed_refuses_long_payload :
    (Instr.unknownRequest station 0x7F (List.replicate 256 0)).wellFormed = false := by decide +kernel

theorem test_wellFormed_takes_longest_payload :
    (Instr.unknownRequest station 0x7F (List.replicate 255 0)).wellFormed = true := by decide +kernel

theorem test_wellFormed_refuses_long_report :
    (Instr.report probe 0 0 0 17 (List.replicate 17 ⟨0, true, 0, 0, 0, 0⟩)).wellFormed = false := by decide +kernel

theorem test_wellFormed_takes_longest_report :
    (Instr.report probe 0 0 0 16 (List.replicate 16 ⟨0, true, 0, 0, 0, 0⟩)).wellFormed = true := by decide +kernel

theorem test_no_word_spells_a_command : decodeTableWord 8 0x5C = none := rfl

-- ==== Worked examples of the spec ====

theorem test_tag_of_tx_70 : tag 70 5 = 0xC1446FFA ∧ ~~~ tag 70 5 = 0x3EBB9005 := by decide

theorem test_tag_reads_back :
    classify 5 true 0xC1446FFA = .valid .direct 70 false ∧ classify 5 true 0x3EBB9005 = .valid .inverted 70 true ∧
      classify 6 true 0xC1446FFA = .valid .stale 70 false ∧ classify 5 true 0x51446FFA = .garbled ∧
      classify 5 false 0xC1446FFA = .none := by decide +kernel

theorem test_check_byte : crc8 [0x70, 0x90, 0x00] = 0x86 := by decide +kernel

theorem test_parity_of_address : parityBit 0xB8 = true ∧ parityBit 0xB9 = false := by decide +kernel

theorem test_margin_figures :
    marginFigure 0 5 = 0 ∧ marginFigure 3 0 = 0 ∧ marginFigure (2 ^ 48 - 256) 0 = 46 ∧ marginFigure (3 * 2 ^ 36) 0 = 36 ∧
      marginFigure (3 * 2 ^ 36 - 1) 0 = 35 := by decide +kernel

theorem test_average_skew :
    ({ skewSum := -37, skewCount := 10 } : Observation).average = some (-4) ∧
      ({ skewSum := 37, skewCount := 10 } : Observation).average = some 3 ∧
      ({ skewSum := -1, skewCount := 4096 } : Observation).average = some (-1) := by decide +kernel

theorem test_link_skew_at_its_largest :
    linkSkew [{ skewSum := 2047, skewCount := 1 }, { skewSum := -2047, skewCount := 1 }] = some 4094 := by decide +kernel

theorem test_reset_is_device_reset_released :
    nextHas (fun s => s == State.reset) (run [.deviceReset, .resetnRelease false false] State.reset) = true := by
  decide +kernel

theorem test_straps_give_address :
    nextHas (fun s => s.port.target == 0x5F) (run [.deviceReset, .resetnRelease true true] State.reset) = true := by
  decide +kernel

-- ==== One test of each family of commands ====

theorem test_status_at_reset :
    replyOf (exec (.status probe) State.reset) =
      some (.ok, [0, 0xFF, 0, 0, 0, 0, 0, 0, 0, 0, 0, 0, 0, 0, 0, 0, 0, 0, 0, 0, 0, 0, 0, 0, 0, 0, 0, 0]) := by decide +kernel

theorem test_default_read :
    nextHas (fun s => s.lines.sent == some ⟨0x00, true⟩)
      (run [.transactionStart, .addressByte 0xB9 false, .replyByte true] State.reset) = true := by decide +kernel

theorem test_frame_by_bytes :
    replyOf (run [.transactionStart, .addressByte 0xB8 true, .writeByte 0x70 false, .writeByte 0x90 true, .writeByte 0x00 true,
      .writeByte 0x86 false] State.reset) = replyOf (exec (.status station) State.reset) := by decide +kernel

theorem test_bad_check_byte_is_naked :
    nextHas (fun s => s.lines.ack == .nak && s.port.latch)
      (run [.transactionStart, .addressByte 0xB8 true, .writeByte 0x70 false, .writeByte 0x90 true, .writeByte 0x00 true,
        .writeByte 0x87 true] State.reset) = true := by decide +kernel

theorem test_excess_byte :
    replyOf (run [.leave probe, .excessByte 0 true] State.reset) = some (.badLength, [0x13]) := by decide +kernel

theorem test_set_link_then_overlap :
    replyOf (run [.setLink station (offer 511)] State.reset) = some (.ok, []) ∧
      replyOf (run [.setLink station (offer 511), .setLink station (offer 0)] State.reset) =
        some (.overlap, [0, 0x01, 0xFF]) := by decide +kernel

theorem test_set_class_clamps :
    replyOf (exec (.setClass station 3 255 7) State.reset) = some (.clamped, [3, 46, 7]) := by decide +kernel

theorem test_enrol_start_fetch_ready :
    replyOf (run [.setLink station (offer 0), .enrol probe 23 32, .start station] State.reset) = some (.ok, [1]) ∧
      replyOf (run [.setLink station (offer 0), .enrol probe 23 32, .start station, .ready probe] State.reset) =
        some (.incomplete, []) ∧
      replyOf (run [.setLink station (offer 0), .enrol probe 23 32, .start station, .fetchDrives probe 0, .ready probe]
        State.reset) = some (.ok, []) := by decide +kernel

theorem test_marker_ends_arming :
    nextHas (fun s => s.seq.sweep == .settle && s.lines.epochPulse && s.seq.s0 == some 1)
      (run [.setLink station (offer 0), .enrol probe 23 32, .start station, .fetchDrives probe 0, .ready probe,
        .epochTimerExpiry] State.reset) = true := by decide +kernel

theorem test_hold_grants :
    replyOf (exec (.hold probe 3) (withSlot 0 (heldSlot .active) (inSweep .measure))) = some (.ok, [3, 3, 3]) := by
  decide +kernel

theorem test_quiet_without_a_call : replyOf (exec (.quiet probe) State.reset) = some (.ok, [0, 0]) := by decide +kernel

theorem test_evaluation_of_an_untested_link :
    nextHas (fun s => (s.verdicts.get 511).verdict == .untested && s.findings.length == 1 && s.cursor.stage == .unplanned)
      (exec .linkEvaluationStep
        { withLink 511 lastLink (inSweep .reduce) with cursor := { stage := .links, position := some 511 } }) = true := by
  decide +kernel

theorem test_unknown_request : replyOf (exec (.unknownRequest station 0x7F []) State.reset) = some (.unknown, []) := by
  decide +kernel

theorem test_abort_of_arming :
    nextHas (fun s => s.seq.sweep == .aborted && s.lines.attn) (exec (.abort station) (inSweep .arming)) = true := by
  decide +kernel

-- ==== States that meet the hypotheses of the statements ====

theorem inSweep_slot (w : SweepState) (i : Nat) : (inSweep w).slots.get i = {} := slots_empty i

theorem inSweep_nobody (w : SweepState) (a : SourceId) (j : Nat) : ((inSweep w).slots.get j).holds a = false := by
  rw [inSweep_slot]; rfl

theorem withSlot_other {k j : Nat} (h : j ≠ k) (r : SlotRecord) (w : SweepState) :
    (withSlot k r (inSweep w)).slots.get j = {} :=
  (Table.get_set_ne _ (Ne.symm h) _).trans (inSweep_slot w j)

theorem withSlot_elsewhere {k j : Nat} (h : j ≠ k) (r : SlotRecord) (w : SweepState) (a : SourceId) :
    ((withSlot k r (inSweep w)).slots.get j).holds a = false := by
  rw [withSlot_other h]; rfl

theorem withSlot_sourcesOk (k : Nat) (r : SlotRecord) (w : SweepState) (h : r.claimant = none ∨ r.source ≠ r.claimant) :
    (withSlot k r (inSweep w)).SourcesOk := by
  have holder : ∀ i a, ((withSlot k r (inSweep w)).slots.get i).holds a = true → i = k := by
    intro i a hi
    by_contra hne
    rw [withSlot_elsewhere hne] at hi
    exact absurd hi (by decide)
  refine ⟨fun i j a hi hj => (holder i a hi).trans (holder j a hj).symm, fun i a ha hc => ?_⟩
  have hk : i = k := holder i a (by simp [SlotRecord.holds, ha])
  have hr : (withSlot k r (inSweep w)).slots.get i = r ∨ (withSlot k r (inSweep w)).slots.get i = {} := by
    by_cases hlt : k < 24
    · subst hk; exact Or.inl (Table.get_set_same _ hlt _)
    · exact Or.inr ((congrArg (Table.get · i) (Table.set_outside _ (Nat.le_of_not_lt hlt) _)).trans (inSweep_slot w i))
  rcases hr with hr | hr <;> rw [hr] at ha hc
  · rcases h with h | h
    · rw [h] at hc; exact absurd hc (by simp)
    · exact h (ha.trans hc.symm)
  · exact absurd ha (by simp)

theorem reset_planOk : State.reset.PlanOk := by
  constructor
  · intro i l h; rw [show State.reset.links.get i = none from links_empty i] at h; exact absurd h (by simp)
  · intro i j k l _ h; rw [show State.reset.links.get i = none from links_empty i] at h; exact absurd h (by simp)

theorem planned_links {i : Nat} {l : Link} (h : planned.links.get i = some l) : i = 511 ∧ l = lastLink := by
  by_cases hi : i = 511
  · subst hi
    exact ⟨rfl, (Option.some.inj ((Table.get_set_same State.reset.links (by decide) (some lastLink)).symm.trans h)).symm⟩
  · have hn := (Table.get_set_ne State.reset.links (Ne.symm hi) (some lastLink)).trans (links_empty i)
    exact absurd (hn.symm.trans h) (by simp)

theorem planned_planOk : planned.PlanOk := by
  constructor
  · intro i l h; rw [(planned_links h).2]
    exact ⟨by decide, by decide, by decide, by decide, by decide, fun b hb => by
      rw [show lastLink.budget = some 255 from rfl] at hb; injection hb with hb; omega⟩
  · intro i j k l hij hi hj; exact absurd ((planned_links hi).1.trans (planned_links hj).1.symm) hij

theorem test_witness_StepTakesTheFrontCommand : State.reset.pending = [] := rfl

theorem test_witness_DeviceReset :
    (∃ s : State, s.lines.resetN = false) ∧ State.reset.lines.resetN = true :=
  ⟨⟨{ State.reset with lines := { resetN := false } }, rfl⟩, rfl⟩

/-- Every sweep state, with a station or a probe asking: the hypotheses of the statements by sweep state (RESET CAMPAIGN, START,
ABORT, CONTINUE, CLEAR HALT, SET CLASS, SET TIMING, CLEAR PLAN, STATUS). -/
theorem test_witness_sweep_states (w : SweepState) :
    (inSweep w).FromStation station ∧ (inSweep w).FromProbe probe ∧ (inSweep w).seq.sweep = w ∧ probe.source ≠ 0 ∧
      (inSweep .idle).Open ∧ (inSweep .done).Open ∧ (inSweep .aborted).Open ∧ ¬ (inSweep .arming).Open :=
  ⟨⟨⟨rfl, rfl⟩, by decide⟩, ⟨⟨rfl, rfl⟩, by decide⟩, rfl, by decide, Or.inl rfl, Or.inr (Or.inl rfl), Or.inr (Or.inr rfl),
    by simp [State.Open, inSweep]⟩

theorem test_witness_DeafOrLatched :
    busEvent .stop = true ∧ (onBus { latch := true }).lines.resetN = true ∧ (onBus { latch := true }).port.latch = true ∧
      (requestOf (.status probe)).isSome = true ∧
      (onBus { latch := true, bus := .address }).port.bus = .address ∧ (0xB9 : Byte).toNat / 2 = Config.targetBase.toNat ∧
      (onBus { bus := .writing }).Listening ∧ false ≠ parityBit 0x00 ∧
      (onBus { bus := .writing, decoder := .check, frame := [0x70, 0x90, 0x00] }).Listening ∧
      (0x87 : Byte) ≠ crc8 [0x70, 0x90, 0x00] := by
  refine ⟨rfl, rfl, rfl, rfl, rfl, by decide, ⟨rfl, rfl⟩, by decide +kernel, ⟨rfl, rfl⟩, by decide +kernel⟩

theorem test_witness_AddressBytes :
    (onBus { bus := .address }).lines.resetN = true ∧ (onBus { bus := .address }).port.latch = false ∧
      (0xB8 : Byte).toNat / 2 = Config.targetBase.toNat ∧ (0xB8 : Byte).toNat % 2 = 0 ∧
      (0xBA : Byte).toNat / 2 ≠ Config.targetBase.toNat ∧ State.reset.port.bus ≠ .address := by decide

theorem test_witness_ReadPhaseOpens :
    (onBus { bus := .address }).Listening ∧ (0xB9 : Byte).toNat / 2 = Config.targetBase.toNat ∧ (0xB9 : Byte).toNat % 2 = 1 ∧
      (onBus { bus := .address, decoder := .ended, reply := some okReply }).port.reply = some okReply ∧
      (onBus { bus := .address, decoder := .free, reply := some okReply }).port.decoder = .free ∧
      (onBus { bus := .address }).port.decoder = .free ∧ (onBus { bus := .address }).port.reply = none ∧
      (onBus { bus := .address, decoder := .header }).port.frame = [] ∧
      (onBus { bus := .address, decoder := .header, frame := [0x70] }).port.frame ≠ [] ∧
      (onBus { bus := .address, decoder := .payload, frame := [0x70, 0x40, 1] }).port.decoder = .payload ∧
      (onBus { bus := .address, decoder := .check, frame := [0x70, 0x90, 0] }).port.decoder = .check :=
  ⟨⟨rfl, rfl⟩, by decide⟩

theorem test_witness_WrittenBytesFillTheFrame :
    (onBus { bus := .writing, decoder := .header }).Listening ∧
      (onBus { bus := .writing, decoder := .header, frame := [0x70] }).port.frame.length < 2 ∧
      (onBus { bus := .writing, decoder := .header, frame := [0x70, 0x90] }).port.frame = [0x70, 0x90] ∧
      128 < (129 : Byte).toNat ∧ (1 ≤ (1 : Byte).toNat ∧ (128 : Byte).toNat ≤ 128) ∧ (0x90 : Byte).msb = true ∧
      (0x10 : Byte).msb = false ∧
      (onBus { bus := .writing, decoder := .payload, frame := [0x70, 0xC2, 2] }).port.frame = [0x70, 0xC2, 2] ++ [] ∧
      ([] : List Byte).length + 1 < (2 : Byte).toNat ∧ [(0 : Byte)].length + 1 = (2 : Byte).toNat ∧
      (onBus { bus := .writing, decoder := .check, frame := [0x70, 0x90, 0] }).port.frame = [0x70, 0x90, 0] ++ [] ∧
      (0x86 : Byte) = crc8 [0x70, 0x90, 0] := by
  refine ⟨⟨rfl, rfl⟩, ?_⟩; decide +kernel

theorem test_witness_ExcessByteReplacesTheReply :
    (onBus { bus := .writing, decoder := .ended, reply := some okReply }).Listening ∧ okReply.result ≠ .badLength ∧
      ({ okReply with result := .badLength } : Reply).result = .badLength := ⟨⟨rfl, rfl⟩, by decide⟩

theorem test_witness_ReadPhaseSendsTheWholeReply :
    (onBus { bus := .reading, reply := some okReply }).port.bus = .reading ∧
      (onBus { bus := .reading, reply := some okReply }).port.reply = some okReply ∧ okReply.position = 0 ∧
      (onBus { bus := .readEnded, reply := some okReply }).port.bus = .readEnded := by decide

theorem test_witness_ParityAndCheckBytes : [(1 : Byte)].length = [(2 : Byte)].length := rfl

/-- A frame with the longest payload, and one longer by a byte. -/
theorem test_witness_RequestCommandIsItsFrame :
    requestOf (.unknownRequest station 0x7F (List.replicate 128 0)) = some (station, 0x7F, List.replicate 128 0) ∧
      (List.replicate 128 (0 : Byte)).length ≤ 128 ∧ 128 < (List.replicate 129 (0 : Byte)).length ∧
      (List.replicate 129 (0 : Byte)).length ≤ 255 ∧ (List.replicate 255 (0 : Byte)).length ≤ 255 ∧
      (onBus { bus := .writing, decoder := .header }).port.frame = [] ∧
      (onBus { bus := .writing, decoder := .header }).Listening ∧ State.reset.Listening :=
  ⟨rfl, by decide +kernel, by decide +kernel, by decide +kernel, by decide +kernel, rfl, ⟨rfl, rfl⟩, rfl, rfl⟩

theorem test_witness_JudgementOrder :
    State.reset.Listening ∧ (⟨0, false⟩ : Requester).source = 0 ∧ (0x7F : BitVec 7) ∉ catalogueCodes ∧
      (0x20 : BitVec 7) ∈ catalogueCodes ∧ ¬ mayAsk probe.source 0x20 ∧ ¬ mayAsk station.source 0x01 ∧
      mayAsk probe.source 0x10 ∧ mayAsk station.source 0x20 ∧ requestLength 0x20 [] ≠ some 0 ∧
      requestLength 0x05 [0, 0, 0, 0] ≠ some 4 := by
  refine ⟨⟨rfl, rfl⟩, rfl, by decide, by decide, ?_, ?_, ?_, ?_, by decide, by decide⟩ <;> unfold mayAsk <;> decide

theorem test_witness_RefusalsChangeNothing :
    (requestOf (.leave probe)).isSome = true ∧ replyOf (exec (.leave probe) State.reset) = some (.notEnrolled, []) ∧
      replyOf (exec (.enrol ⟨0x02, false⟩ 0 1) (withSlot 0 (heldSlot .enrolled) State.reset)) = some (.conflict, []) := by
  decide +kernel

theorem test_witness_StationsAreInterchangeable :
    0x70 ≤ (0x70 : SourceId).toNat ∧ 0x70 ≤ (0x7F : SourceId).toNat := by decide

theorem offer_inRange (id : Half) (h : id.toNat ≤ 511) : offerInRange (offer id) :=
  ⟨h, (by decide : 23 ≤ 23), (by decide : 23 ≤ 23), (by decide : 1 ≤ 8), (by decide : 8 ≤ 8), (by decide : 24 + 8 ≤ 32),
    (by decide : 24 + 8 ≤ 32), (by decide : 3 ≤ 3)⟩

theorem test_witness_SetLinkStoresTheRecord :
    State.reset.FromStation station ∧ State.reset.PlanOk ∧ State.reset.Open ∧ offerInRange (offer 511) ∧
      (offer 511).cls.toNat = LossClass.d.code ∧ (∀ j, ¬ State.reset.SharesRx (offer 511) j) ∧
      ∀ j, ¬ State.reset.SharesTx (offer 511) j := by
  refine ⟨⟨⟨rfl, rfl⟩, by decide⟩, reset_planOk, Or.inl rfl, offer_inRange _ (by decide), by decide, ?_, ?_⟩ <;>
    (rintro j ⟨-, l, e, hl, -⟩; rw [show State.reset.links.get j = none from links_empty j] at hl; exact absurd hl (by simp))

/-- The offer of the last link over itself under another id: 511 is the only link it meets, on both sides. -/
theorem test_witness_SetLinkRefusals_rx :
    planned.PlanOk ∧ planned.Open ∧ offerInRange (offer 0) ∧ planned.SharesRx (offer 0) 511 ∧
      ∀ j, planned.SharesRx (offer 0) j → 511 ≤ j := by
  refine ⟨planned_planOk, Or.inl rfl, offer_inRange _ (by decide), ⟨by decide, lastLink, 767, ?_, by decide, by decide,
    by decide⟩, ?_⟩
  · exact Table.get_set_same State.reset.links (by decide) (some lastLink)
  · rintro j ⟨-, l, e, hl, -⟩; exact (planned_links hl).1.ge

/-- The same transmit side with a receive side of its own. -/
def txOffer : LinkFields := { offer 0 with rxSlot := 0, rxBase := 0 }

theorem test_witness_SetLinkRefusals_tx :
    offerInRange txOffer ∧ (∀ j, ¬ planned.SharesRx txOffer j) ∧ planned.SharesTx txOffer 511 ∧
      (∀ j, planned.SharesTx txOffer j → 511 ≤ j) ∧ ¬ offerInRange (offer 512) ∧ ¬ offerInRange { offer 0 with width := 9 } := by
  refine ⟨⟨by decide, by decide, by decide, by decide, by decide, by decide, by decide, by decide⟩, ?_,
    ⟨by decide, lastLink, 767, ?_, by decide, by decide, by decide⟩, ?_, ?_, ?_⟩
  · rintro j ⟨-, l, e, hl, hc, -, hu⟩
    rw [(planned_links hl).2] at hc
    have h1 : 760 ≤ e := by
      simp only [Link.coversRx, Bool.and_eq_true, decide_eq_true_eq] at hc
      exact le_trans (by decide) hc.1
    have h2 : e < 8 := lt_of_lt_of_le hu (by decide)
    omega
  · exact Table.get_set_same State.reset.links (by decide) (some lastLink)
  · rintro j ⟨-, l, e, hl, -⟩; exact (planned_links hl).1.ge
  · intro h; exact absurd h.1 (by decide)
  · intro h; exact absurd h.2.2.2.2.1 (by decide)

theorem test_witness_plan_and_table_reads :
    State.reset.FromStation station ∧ 511 < (512 : Half).toNat ∧ (511 : Half).toNat ≤ 511 ∧
      State.reset.links.get (511 : Half).toNat = none ∧ planned.links.get (511 : Half).toNat = some lastLink ∧
      planned.Open ∧ 3 < (4 : Byte).toNat ∧ (3 : Byte).toNat = LossClass.d.code ∧ 23 < (24 : Byte).toNat ∧
      (23 : Byte).toNat ≤ 23 ∧ 767 < (768 : Half).toNat ∧ (767 : Half).toNat ≤ 767 := by
  refine ⟨⟨⟨rfl, rfl⟩, by decide⟩, by decide, by decide, links_empty _, ?_, Or.inl rfl, by decide⟩
  exact Table.get_set_same State.reset.links (by decide) (some lastLink)

theorem test_witness_EnrolTakesAnEmptySlot :
    State.reset.FromProbe probe ∧ 23 < (24 : Byte).toNat ∧ (0 : Byte).toNat = 0 ∧ 32 < (33 : Byte).toNat ∧
      (23 : Byte).toNat ≤ 23 ∧ 1 ≤ (1 : Byte).toNat ∧ (32 : Byte).toNat ≤ 32 ∧
      (withSlot 0 (heldSlot .enrolled) (inSweep .arming)).SourcesOk ∧ 0 ≠ (23 : Byte).toNat ∧
      ((withSlot 0 (heldSlot .enrolled) (inSweep .arming)).slots.get 0).holds probe.source = true ∧
      (∀ j, j ≠ (23 : Byte).toNat → ((inSweep .arming).slots.get j).holds probe.source = false) ∧
      ((inSweep .arming).slots.get (23 : Byte).toNat).state = .empty := by
  refine ⟨⟨⟨rfl, rfl⟩, by decide⟩, by decide, by decide, by decide, by decide, by decide, by decide,
    withSlot_sourcesOk _ _ _ (Or.inl rfl), by decide, by decide +kernel, fun j _ => inSweep_nobody _ _ _, ?_⟩
  rw [inSweep_slot]

/-- Every state of a slot held by the probe or by another one, in every sweep state, with no other record holding the probe. -/
theorem test_witness_enrolment_of_a_held_slot (r : RosterState) (w : SweepState) :
    (withSlot 23 (heldSlot r) (inSweep w)).FromProbe probe ∧
      (∀ j, j ≠ (23 : Byte).toNat → ((withSlot 23 (heldSlot r) (inSweep w)).slots.get j).holds probe.source = false) ∧
      (withSlot 23 (heldSlot r) (inSweep w)).slots.get (23 : Byte).toNat = heldSlot r ∧
      (heldSlot r).source = some probe.source ∧ (heldSlot r).state = r ∧
      (∀ j, j ≠ (23 : Byte).toNat → ((withSlot 23 (otherSlot r) (inSweep w)).slots.get j).holds probe.source = false) ∧
      (otherSlot r).source ≠ some probe.source ∧ (otherSlot r).state = r :=
  ⟨⟨⟨rfl, rfl⟩, by decide⟩, fun _ h => withSlot_elsewhere h _ _ _, Table.get_set_same _ (by decide) _, rfl, rfl,
    fun _ h => withSlot_elsewhere h _ _ _, (by decide : (some 0x02 : Option SourceId) ≠ some 0x01), rfl⟩

/-- The last ACTIVE slot and one of two, in a state that aborts when all are lost and in one that does not. -/
theorem test_witness_last_active_slot :
    (withSlot 23 (heldSlot .lost) (inSweep .settle)).activeCount = 0 ∧ SweepState.settle.abortsWhenLost = true ∧
      (withSlot 23 (heldSlot .conflict) (inSweep .settle)).activeCount = 0 ∧ SweepState.reduce.abortsWhenLost = false ∧
      (withSlot 23 (heldSlot .lost) (withSlot 0 (otherSlot .active) (inSweep .settle))).activeCount ≠ 0 := by decide +kernel

/-- A source without a slot, and one with a slot in any state, in any sweep state, as its holder or as its claimant: the
hypotheses of LEAVE, FETCH DRIVES, READY, HOLD and QUIET. -/
theorem test_witness_requests_by_source (r : RosterState) (w : SweepState) :
    (∀ j, ((inSweep w).slots.get j).holds probe.source = false) ∧
      (∀ j, ((inSweep w).slots.get j).source ≠ some probe.source) ∧
      (withSlot 23 (heldSlot r) (inSweep w)).SourcesOk ∧
      (withSlot 23 (heldSlot r) (inSweep w)).slots.get 23 = heldSlot r ∧ (heldSlot r).holds probe.source = true ∧
      (withSlot 23 (heldSlot r) (inSweep w)).seq.sweep = w ∧
      (withSlot 23 { otherSlot .conflict with claimant := some 0x01 } (inSweep w)).SourcesOk := by
  refine ⟨fun j => inSweep_nobody _ _ _, fun j => ?_, withSlot_sourcesOk _ _ _ (Or.inl rfl),
    Table.get_set_same _ (by decide) _, rfl, rfl, withSlot_sourcesOk _ _ _ (Or.inr (by decide))⟩
  rw [inSweep_slot]; exact (by decide)

theorem test_witness_ReleaseSlot :
    23 < (24 : Byte).toNat ∧ (23 : Byte).toNat ≤ 23 ∧ ({} : SlotRecord).state = .empty ∧
      (heldSlot .active).participating = true ∧ ¬ (inSweep .settle).Open ∧
      ({ heldSlot .conflict with participating := false, lostByConflict := true } : SlotRecord).lostByConflict = true ∧
      (heldSlot .enrolled).participating = false := by
  refine ⟨by decide, by decide, rfl, rfl, ?_, rfl, rfl⟩
  simp [State.Open, inSweep]

/-- One page only for a slot without planned lanes: page 0 is served, page 1 is out of range; a slot with its page fetched and
one without. -/
theorem test_witness_pages :
    max 1 ((((withSlot 23 (heldSlot .enrolled) (inSweep .arming)).plannedTxLanes 23).length + 15) / 16) = 1 ∧
      (0 : Byte).toNat < 1 ∧ 1 ≤ (1 : Byte).toNat ∧ (heldSlot .enrolled).pages.getLsbD 0 = false ∧
      ∀ i, i < 1 → ({ heldSlot .enrolled with pages := 1 } : SlotRecord).pages.getLsbD i = true := by decide +kernel

theorem test_witness_DriveListPages :
    (0 : Nat) ≤ 1 ∧ ((planned.plannedTxLanes 23).drop (16 * 0)).take 16 = [24, 25, 26, 27, 28, 29, 30, 31] := by
  decide +kernel

/-- Words for every clause: a marker of neither orientation, an endpoint field of 768, a wrong check, the current generation
and another, in both orientations; generation 0 and endpoint 767 among them. -/
theorem test_witness_ClassificationFollowsTheFields :
    (0x51446FFA : Word).toNat / 2 ^ 28 ≠ 12 ∧ (0x51446FFA : Word).toNat / 2 ^ 28 ≠ 3 ∧
      (0xC1446FFA : Word).toNat / 2 ^ 28 = 12 ∧ 0xC1446FFA / 2 ^ 22 % 64 = 5 ∧ 0xC1446FFA / 2 ^ 12 % 1024 = 70 ∧
      0xC1446FFA % 4096 = (37 * 70 + 11 * 5 + 1445) % 4096 ∧
      (0x3EBB9005 : Word).toNat / 2 ^ 28 = 3 ∧ 2 ^ 32 - 1 - (0x3EBB9005 : Word).toNat = 0xC1446FFA ∧
      (0xC02FF000 : Word).toNat / 2 ^ 12 % 1024 = 767 ∧ (0xC02FF000 : Word).toNat / 2 ^ 22 % 64 = 0 ∧
      767 < (0xC0300000 : Word).toNat / 2 ^ 12 % 1024 := by decide +kernel

theorem test_witness_TagsClassifyAsThemselves :
    (767 ≤ 767 ∧ 1 ≤ 63 ∧ 63 ≤ 63) ∧ (0 ≤ 767 ∧ 1 ≤ 1 ∧ 1 ≤ 63) ∧ (0 : Nat) ≠ 63 := by decide

/-- A START that is taken, at the two sides of the wrap, and the two ways of EMPTY. -/
theorem test_witness_StartTakenOrRefused :
    (withSlot 23 (heldSlot .enrolled) (withLink 511 lastLink (inSweep .done))).Open ∧
      (withSlot 23 (heldSlot .enrolled) (withLink 511 lastLink (inSweep .done))).links.get 511 = some lastLink ∧
      ((withSlot 23 (heldSlot .enrolled) (withLink 511 lastLink (inSweep .done))).slots.get 23).state = .enrolled ∧
      (1 = if (63 : Nat) = 63 then 1 else 63 + 1) ∧ (63 = if (62 : Nat) = 63 then 1 else 62 + 1) ∧
      (∀ k, (inSweep .idle).links.get k = none) ∧ ∀ i, ((inSweep .idle).slots.get i).state ≠ .enrolled := by
  refine ⟨Or.inr (Or.inl rfl), Table.get_set_same _ (by decide) _, ?_, rfl, rfl, fun k => links_empty k, fun i => ?_⟩
  · exact (congrArg SlotRecord.state (Table.get_set_same _ (by decide : 23 < 24) _) : _)
  · rw [inSweep_slot]; decide

theorem test_witness_PlannedLinksAreTheCover :
    planned.PlanOk ∧ (767 : Nat) < 768 ∧ planned.links.get 511 = some lastLink ∧ 7 < lastLink.width ∧
      lastLink.rxSlot * 32 + lastLink.rxBase + 7 = 767 :=
  ⟨planned_planOk, by decide, Table.get_set_same State.reset.links (by decide) (some lastLink), by decide, by decide⟩

theorem test_witness_AbortByState :
    ({ inSweep (.stopped .reduce) with seq := { sweep := .stopped .reduce, quietCall := .pending } } : State).seq.quietCall ≠
        .notStarted ∧ (inSweep (.stopped .measure)).seq.quietCall = .notStarted ∧
      ({ State.reset with seq := { sweep := .reduce, quietCall := .complete } } : State).seq.quietCall = .complete ∧
      (inSweep .reduce).seq.quietCall ≠ .complete ∧ (inSweep .reduce).cursor.stage = .notStarted ∧
      ({ inSweep .reduce with cursor := { stage := .complete } } : State).cursor.stage = .complete := by decide

theorem test_witness_ContinueAndClearHalt :
    (∀ p, (inSweep .settle).seq.sweep ≠ .stopped p) ∧ (∀ o, (inSweep .settle).seq.sweep ≠ .halted o) ∧
      ({ State.reset with seq := { sweep := .halted .reduce, evaluation := .complete } } : State).seq.evaluation = .complete ∧
      (inSweep (.halted .reduce)).seq.evaluation ≠ .complete := by
  refine ⟨fun p => ?_, fun o => ?_, by decide, by decide⟩ <;> simp [inSweep]

/-- An ACTIVE slot in SETTLE and MEASURE, with allowance left and without; a wanted increase of 0. -/
theorem test_witness_HoldGrants :
    (heldSlot .active).state = .active ∧ (inSweep .settle).seq.sweep = .settle ∧ (inSweep .measure).seq.sweep = .measure ∧
      0 < max 1 (min (0 : Byte).toNat 8) - 0 ∧ 8 - ({ heldSlot .active with holdCharged := 8 } : SlotRecord).holdCharged = 0 ∧
      0 < 8 - (heldSlot .active).holdCharged ∧ max 1 (min (255 : Byte).toNat 8) - 8 = 0 := by decide

theorem test_witness_StatusReply :
    State.reset.Listening ∧ probe.source ≠ 0 ∧ probe.source.toNat < 0x70 ∧ 0x70 ≤ station.source.toNat :=
  ⟨⟨rfl, rfl⟩, by decide, by decide, by decide⟩

theorem test_witness_TimerExpiry :
    (inSweep .arming).seq.timer = .running 100 ∧ (inSweep .arming).seq.hold = 0 ∧ (inSweep .arming).seq.epoch ≠ 65535 ∧
      0 < ({ (inSweep .settle).seq with hold := 1 } : Sequencer).hold ∧
      ({ (inSweep .reduce).seq with epoch := 65535 } : Sequencer).epoch = 65535 ∧
      ∀ p, State.reset.seq.timer ≠ .running p := by
  refine ⟨rfl, rfl, by decide, by decide, rfl, fun p h => ?_⟩
  exact absurd h (by simp [State.reset])

/-- A marker in ARMING with a READY slot and none waiting; with one waiting before marker A and at it; with none READY at it. -/
theorem test_witness_ArmingEndsAtItsMarker :
    (∃ i, ((withSlot 0 (heldSlot .ready) (inSweep .arming)).slots.get i).state = .ready) ∧
      (∀ i, ¬ (((withSlot 0 (heldSlot .ready) (inSweep .arming)).slots.get i).state = .enrolled ∧
        ((withSlot 0 (heldSlot .ready) (inSweep .arming)).slots.get i).participating = true)) ∧
      (¬ ∃ i, ((inSweep .arming).slots.get i).state = .ready) ∧
      0 + 1 ≠ (inSweep .arming).timing.arming ∧ 49 + 1 = (inSweep .arming).timing.arming := by
  refine ⟨⟨0, by decide +kernel⟩, fun i => ?_, ?_, by decide, by decide⟩
  · by_cases h : i = 0
    · subst h; decide +kernel
    · rw [withSlot_other h]; decide
  · rintro ⟨i, h⟩; rw [inSweep_slot] at h; exact absurd h (by decide)

/-- A marker at which the only ACTIVE slot is lost, and one at which it stays ACTIVE with nothing to settle; the two ends of the
window and of MEASURE. -/
theorem test_witness_SettleAndMeasureEnd :
    (∃ s : State, s.seq.sweep = .settle ∧ (s.slots.get 0).state = .active ∧
      (s.pulse.bookkeep.emptyWindows.slots.get 0).state = .lost ∧ s.pulse.bookkeep.emptyWindows.activeCount = 0) ∧
    (∃ s : State, s.seq.sweep = .settle ∧ (s.pulse.bookkeep.emptyWindows.slots.get 0).state = .active ∧
      s.pulse.bookkeep.emptyWindows.allSettled = true ∧ s.seq.s0 = some 1) ∧
    (∃ s : State, s.seq.sweep = .settle ∧ s.pulse.bookkeep.emptyWindows.allSettled = false) ∧
    (∃ s : State, s.seq.sweep = .measure ∧ s.seq.m0 = some 10 ∧ 10 + s.timing.measure = s.pulse.bookkeep.emptyWindows.seq.epoch) ∧
    ∃ s : State, s.seq.sweep = .measure ∧ s.seq.m0 = some 10 ∧
      10 + s.timing.measure ≠ s.pulse.bookkeep.emptyWindows.seq.epoch := by
  refine ⟨⟨{ withSlot 0 { heldSlot .active with missed := 2 } (inSweep .settle) with
        seq := { sweep := .settle, timer := .running 100, epoch := 4, s0 := some 1 } }, by decide +kernel⟩,
    ⟨{ withSlot 0 (heldSlot .active) (inSweep .settle) with
        seq := { sweep := .settle, timer := .running 100, epoch := 1, s0 := some 1 } }, by decide +kernel⟩,
    ⟨{ withRecord 0 { planned := some ⟨0, 0⟩ } (withSlot 0 (heldSlot .active) (inSweep .settle)) with
        seq := { sweep := .settle, timer := .running 100, epoch := 1, s0 := some 1 } }, by decide +kernel⟩,
    ⟨{ inSweep .measure with
        seq := { sweep := .measure, timer := .running 100, epoch := 109, s0 := some 1, m0 := some 10 } }, by decide +kernel⟩,
    ⟨{ inSweep .measure with
        seq := { sweep := .measure, timer := .running 100, epoch := 108, s0 := some 1, m0 := some 10 } }, by decide +kernel⟩⟩

/-- The marker of the evaluation start, and the deadline marker with the slot owing and with it acknowledged. -/
theorem test_witness_ReduceMarkers :
    (∃ s : State, s.seq.sweep = .reduce ∧ s.seq.reduceStart = some s.seq.epoch ∧ s.links.get 511 ≠ none) ∧
    (∃ s : State, s.seq.sweep = .aborting ∧ s.seq.quietCall = .pending ∧
      s.seq.quietDeadline = some s.pulse.bookkeep.emptyWindows.seq.epoch ∧
      (s.pulse.bookkeep.emptyWindows.slots.get 0).quietOwed = true ∧
      (s.pulse.bookkeep.emptyWindows.slots.get 0).quietAcked = false) ∧
    ∃ s : State, s.seq.sweep = .aborting ∧ s.pulse.bookkeep.emptyWindows.someOwing = false := by
  refine ⟨⟨{ withLink 511 lastLink (inSweep .reduce) with seq := { sweep := .reduce, epoch := 9, reduceStart := some 9 } },
      by decide +kernel⟩,
    ⟨{ withSlot 0 { heldSlot .lost with quietOwed := true } (inSweep .aborting) with
        seq := { sweep := .aborting, epoch := 8, quietCall := .pending, quietDeadline := some 9 } }, by decide +kernel⟩,
    ⟨inSweep .aborting, by decide +kernel⟩⟩

/-- Boundaries of the phases at the epochs where they meet; a slot with every owed group taken and one without. -/
theorem test_witness_MarkerBookkeeping :
    ({ s0 := some 3, m0 := some 5, closing := some 9 } : Sequencer).phaseOf 2 = .arming ∧
      ({ s0 := some 3, m0 := some 5, closing := some 9 } : Sequencer).phaseOf 3 = .settle ∧
      ({ s0 := some 3, m0 := some 5, closing := some 9 } : Sequencer).phaseOf 5 = .measure ∧
      ({ s0 := some 3, m0 := some 5, closing := some 9 } : Sequencer).phaseOf 9 = .afterSweep ∧
      (∀ g, g < ((heldSlot .active).laneCount + 7) / 8 → ({ groups := 1 } : ReportWindow).groups.getLsbD g = true) ∧
      (0 < ((heldSlot .active).laneCount + 7) / 8 ∧ ({} : ReportWindow).groups.getLsbD 0 = false) ∧
      (heldSlot .lost).state ≠ .active := by decide +kernel

/-- A part in epoch 5 of SETTLE with slot 23 ACTIVE. -/
def reporting : State :=
  { withSlot 23 (heldSlot .active) State.reset with
    seq := { sweep := .settle, timer := .running 100, epoch := 5, s0 := some 2 } }

/-- A lane record with every field at the end of its range. -/
def fullRecord (n : BitVec 5) : LaneRecord :=
  { lane := n, lock := true, raw := 0xC1446FFA, units := 0xFFFFFFFF, errors := 0x00FFFFFF, skew := 0xF800 }

theorem test_witness_ReportTaken :
    reporting.FromProbe probe ∧ (23 : Byte).toNat ≤ 23 ∧ (reporting.slots.get (23 : Byte).toNat).source = some probe.source ∧
      (reporting.slots.get (23 : Byte).toNat).state = .active ∧ reporting.seq.sweep = .settle ∧
      (4 : Half).toNat + 1 = reporting.seq.epoch ∧ reporting.seq.phaseOf (4 : Half).toNat = .settle ∧
      (reporting.windows.get (23 : Byte).toNat).groups.getLsbD (0 : Byte).toNat = false ∧
      [fullRecord 7, fullRecord 0].length = (2 : Byte).toNat ∧ ([fullRecord 7, fullRecord 0].map LaneRecord.lane).Nodup ∧
      ∀ r ∈ [fullRecord 7, fullRecord 0], 8 * (0 : Byte).toNat ≤ r.lane.toNat ∧ r.lane.toNat ≤ 8 * (0 : Byte).toNat + 7 ∧
        r.lane.toNat < (reporting.slots.get (23 : Byte).toNat).laneCount ∧ r.errors.toNat ≤ 2 ^ 24 - 1 ∧
        -2048 ≤ r.skew.toInt ∧ r.skew.toInt ≤ 2047 := by
  refine ⟨⟨⟨rfl, rfl⟩, by decide⟩, ?_⟩; decide +kernel

theorem test_witness_ReportRefusals :
    ¬ ((24 : Byte).toNat ≤ 23) ∧ (heldSlot .lost).state = .lost ∧ (heldSlot .ready).state ≠ .active ∧
      ¬ ((5 : Half).toNat < reporting.seq.epoch) ∧ reporting.seq.phaseOf (1 : Half).toNat = .arming ∧
      ((3 : Half).toNat < reporting.seq.epoch ∧ reporting.seq.phaseOf (3 : Half).toNat = .settle ∧
        (3 : Half).toNat + 2 ≤ reporting.seq.epoch) ∧
      ({ groups := 1 } : ReportWindow).groups.getLsbD (0 : Byte).toNat = true ∧ ¬ ((4 : Byte).toNat ≤ 3) ∧
      ([] : List LaneRecord).length = (0 : Byte).toNat ∧ ¬ ([fullRecord 0, fullRecord 0].map LaneRecord.lane).Nodup ∧
      ¬ ((0x0800 : Half).toInt ≤ 2047) ∧ ¬ ((0x01000000 : Word).toNat ≤ 2 ^ 24 - 1) ∧ 5 + 15 * 8 ≤ 128 := by decide +kernel

/-- An unsettled record before its third agreeing record, in each class, with the hearers list not full and full. -/
theorem test_witness_LaneRecordsSettle :
    (767 : Nat) < 768 ∧ ({ lockRun := 2, candidate := some 0xC1446FFA } : Observation).settled = none ∧
      classify 5 true 0xC1446FFA = .valid .direct 70 false ∧ classify 5 true 0x3EBB9005 = .valid .inverted 70 true ∧
      classify 6 true 0xC1446FFA = .valid .stale 70 false ∧ classify 5 true 0 = .garbled ∧ classify 5 false 0 = .none ∧
      ({} : Observation).candidate ≠ some 0xC1446FFA ∧ ({ lockRun := 1, candidate := some 0xC1446FFA } : Observation).lockRun ≠ 2 ∧
      ({ list := [0, 1, 2] } : Hearers).list.length < 4 ∧ ¬ ({ list := [0, 1, 2, 3] } : Hearers).list.length < 4 := by
  decide +kernel

theorem test_witness_MatchesAccumulate :
    ({ lockRun := 3, candidate := some 0xC1446FFA, settled := some ⟨.direct, 0xC1446FFA, 70⟩ } : Observation).settled =
        some ⟨.direct, 0xC1446FFA, 70⟩ ∧
      (fullRecord 0).lock = true ∧ (fullRecord 0).raw = (⟨.direct, 0xC1446FFA, 70⟩ : Settled).word ∧
      ¬ (({ fullRecord 0 with lock := false } : LaneRecord).lock = true ∧ (fullRecord 0).raw = 0xC1446FFA) ∧
      ((fullRecord 0).skew.toNat % 4096 : Int) - 4096 = -2048 := by decide +kernel

/-- A pending call with one slot owing, and with another owing beside it. -/
theorem test_witness_QuietAnswers :
    (∃ s : State, s.seq.sweep = .aborting ∧ s.seq.quietCall = .pending ∧ (s.slots.get 0).source = some probe.source ∧
      (s.slots.get 0).quietOwed = true ∧ (s.slots.get 0).quietAcked = false ∧ s.owingSet = 1) ∧
    (∃ s : State, s.seq.quietCall = .pending ∧ s.owingSet = 3) ∧
    ∃ s : State, s.seq.sweep = .reduce ∧ s.seq.evaluation = .complete ∧ s.seq.quietCall = .pending ∧ s.owingSet = 1 := by
  refine ⟨⟨{ withSlot 0 { heldSlot .lost with quietOwed := true } (inSweep .aborting) with
        seq := { sweep := .aborting, quietCall := .pending } }, by decide +kernel⟩,
    ⟨{ withSlot 1 { otherSlot .lost with quietOwed := true } (withSlot 0 { heldSlot .lost with quietOwed := true } State.reset) with
        seq := { sweep := .aborting, quietCall := .pending } }, by decide +kernel⟩,
    ⟨{ withSlot 0 { heldSlot .active with quietOwed := true } State.reset with
        seq := { sweep := .reduce, quietCall := .pending, evaluation := .complete } }, by decide +kernel⟩⟩

theorem test_witness_MarginAndSkewArithmetic :
    (2 < 0 + 3 ∧ 0 + 3 ≤ 3) ∧ (36 ≤ 36 ∧ 35 < 36 ∧ 36 - 2 ≤ 34 ∧ 33 < 36 - 2) ∧
      ({ skewCount := 0 } : Observation).skewCount = 0 ∧ 0 < ({ skewCount := 1 } : Observation).skewCount ∧
      (2 ^ 40 - 1 ≤ 2 ^ 40 - 1) ∧ linkMargin [{ units := 1 }, {}] = some 6 ∧ linkMargin [{}] = none ∧
      linkSkew [{ skewCount := 1 }] = none := by decide +kernel

/-- A tested lane with each kind of evidence, a lane untested for each reason, and a reversed link. -/
theorem test_witness_LaneChecks :
    (1 < firstLink.width) ∧ ((heldSlot .enrolled).state ≠ .active ∧ (heldSlot .enrolled).isLost = false) ∧
      (heldSlot .lost).isLost = true ∧
      ((heldSlot .active).state = .active ∧ (heldSlot .active).laneCount ≤ 8 ∧ 7 < (heldSlot .active).laneCount) ∧
      ((heldSlot .active).activated = true ∧ (heldSlot .lost).activated = false) ∧
      ({ withRecord 1 { settled := some ⟨.direct, 0, 0⟩ } (withRecord 0 { settled := some ⟨.direct, 0, 1⟩ } State.reset) with
        pending := [] } : State).reversalSeen firstLink = true ∧
      State.reset.reversalSeen firstLink = false := by decide +kernel

theorem test_witness_LinkVerdictIsMostSevere :
    1 ≤ lastLink.width ∧ (planned.evaluate lastLink).verdict = .untested ∧
      skewExceeded (some 0) (linkSkew [{ skewSum := 1, skewCount := 1 }, { skewCount := 1 }]) = true ∧
      (planned.evaluate lastLink).notes.saturated = false ∧
      ((withRecord 767 { units := 2 ^ 40 - 1, unitsSaturated := true } planned).evaluate lastLink).notes.saturated = true := by
  decide +kernel

/-- A link's step that passes, one whose finding is pushed, one whose finding waits; an endpoint settled outside the plan. -/
theorem test_witness_EngineSteps :
    (∃ s : State, s.seq.sweep = .reduce ∧ s.cursor.stage = .links ∧ s.cursor.pendingFinding = none ∧
      s.cursor.position = some 511 ∧ s.links.get 511 = some lastLink ∧ (s.evaluate lastLink).verdict ≠ .pass ∧
      s.findings.length < 64) ∧
    (∃ s : State, s.links.get 0 = some { firstLink with width := 1 } ∧
      (s.evaluate { firstLink with width := 1 }).verdict = .pass) ∧
    (∃ s : State, s.seq.sweep = .halted .reduce ∧ s.cursor.stage = .unplanned ∧ s.cursor.position = some 767 ∧
      (s.observations.get 767).planned = none ∧ (s.observations.get 767).settled = some ⟨.stale, 0, 0⟩ ∧
      64 ≤ s.findings.length) ∧
    (State.reset.seq.sweep ≠ .reduce ∧ ∀ p, State.reset.seq.sweep ≠ .halted p) := by
  refine ⟨⟨{ withLink 511 lastLink (inSweep .reduce) with cursor := { stage := .links, position := some 511 } },
      by decide +kernel⟩,
    ⟨{ withLink 0 { firstLink with width := 1 } (withSlot 0 (heldSlot .active) (inSweep .reduce)) with
        observations := State.reset.observations.set 0
          { lockRun := 3, settled := some ⟨.direct, 0, 0⟩, units := 2 ^ 40 - 1 } }, by decide +kernel⟩,
    ⟨{ withRecord 767 { settled := some ⟨.stale, 0, 0⟩ } (inSweep (.halted .reduce)) with
        cursor := { stage := .unplanned, position := some 767 }
        findings := List.replicate 64 ⟨0, unplannedFinding 0 {}⟩ }, by decide +kernel⟩,
    by decide, fun p => by simp [State.reset]⟩

theorem test_witness_FindingQueueRequests :
    State.reset.findings = [] ∧
      (∃ s : State, s.findings = [⟨3, unplannedFinding 0 {}⟩] ∧ (3 : Half).toNat = 3 ∧ (4 : Half).toNat ≠ 3 ∧
        s.cursor.pendingFinding = none) ∧
      ∃ s : State, s.findings.length = 64 ∧ s.cursor.pendingFinding = some (unplannedFinding 0 {}) :=
  ⟨rfl, ⟨{ State.reset with findings := [⟨3, unplannedFinding 0 {}⟩] }, by decide +kernel⟩,
    ⟨{ State.reset with findings := List.replicate 64 ⟨3, unplannedFinding 0 {}⟩,
                        cursor := { stage := .unplanned, position := some 5, pendingFinding := some (unplannedFinding 0 {}) } },
      by decide +kernel⟩⟩

/-- The part after reset with a command waiting. -/
def waiting : State := State.reset.withPending [.clearPlan station]

theorem test_witness_PlanStaysExclusive :
    (∃ t, step (planned.withPending [.clearPlan station]) = .next t) ∧ (planned.withPending [.clearPlan station]).PlanOk ∧
      waiting.UnusedOk :=
  ⟨⟨_, rfl⟩, ⟨planned_planOk.1, planned_planOk.2⟩, fun i _ => verdicts_empty i⟩

theorem waiting_link (i : Nat) : waiting.links.get i = none := links_empty i

theorem waiting_slot (i : Nat) : waiting.slots.get i = {} := slots_empty i

theorem waiting_record (e : Nat) : waiting.observations.get e = {} := observations_empty e

theorem waiting_hearers (t : Nat) : waiting.hearing.get t = {} := hearing_empty t

theorem waiting_roster : waiting.RosterOk := by
  intro i
  rw [waiting_slot]
  exact ⟨fun _ => rfl, fun h => absurd rfl h, fun h => absurd rfl h, by decide, fun a h => absurd h (by simp), by decide,
    by decide, by decide, by decide, by decide⟩

theorem waiting_timing : waiting.timing.InRange := ⟨by decide, by decide, by decide, by decide, by decide⟩

theorem test_witness_RosterLawsStay :
    (∃ t, step waiting = .next t) ∧ waiting.RosterOk ∧ (withSlot 23 (heldSlot .enrolled) (inSweep .idle)).SourcesOk :=
  ⟨⟨_, rfl⟩, waiting_roster, withSlot_sourcesOk _ _ _ (Or.inl rfl)⟩

theorem test_witness_GenerationAndHoldsStay : waiting.GenerationOk ∧ waiting.HoldOk :=
  ⟨⟨by decide, fun h => absurd rfl h⟩, waiting_timing, by decide, fun i => by rw [waiting_slot]; decide,
    fun h => absurd h (by decide)⟩

theorem test_witness_SweepAndCursorStay :
    (∃ t, step waiting = .next t) ∧ waiting.RosterOk ∧ waiting.SweepOk ∧ waiting.CursorOk ∧ waiting.PlanOk ∧
      waiting.PlannedOk ∧ waiting.NumbersOk :=
  ⟨⟨_, rfl⟩, waiting_roster,
    ⟨waiting_timing, rfl, fun h => absurd rfl h, fun h => absurd h (by decide), fun h => absurd h (by decide),
      fun h => absurd h (by decide), fun h => absurd h (by decide)⟩,
    ⟨rfl, fun h => absurd h (by decide), fun h => absurd h (by decide), fun h => absurd h (by decide),
      fun h => absurd h (by decide), fun _ => rfl, fun h => absurd h (by decide), fun h => absurd h (by decide), fun h => absurd h (by decide)⟩,
    ⟨fun i l h => absurd h (by rw [waiting_link]; simp), fun i _ k _ _ h => absurd h (by rw [waiting_link]; simp)⟩,
    fun h => absurd h (by decide), rfl⟩

/-- The last endpoint of the pass over one link of width 2: at most 766 findings stand before it. -/
theorem test_witness_NumbersOk :
    ({ withLink 0 firstLink (inSweep .reduce) with
        observations := plannedObservations [(0, firstLink)]
        cursor := { stage := .unplanned, position := some 767 }
        nextSeq := 766 } : State).NumbersOk :=
  ⟨767, rfl, by decide +kernel, by decide, fun h => absurd h (by decide)⟩

theorem waiting_evidence : waiting.EvidenceOk := by
  intro e
  rw [waiting_record]
  exact ⟨by decide, by decide, fun x h => absurd h (by simp), fun _ => by decide, by decide, by decide, by decide, by decide,
    by decide⟩

theorem test_witness_EvidenceStays : (∃ t, step waiting = .next t) ∧ waiting.EvidenceOk := ⟨⟨_, rfl⟩, waiting_evidence⟩

theorem test_witness_HearingAndFiguresStay : waiting.EvidenceOk ∧ waiting.HearingOk ∧ waiting.FiguresOk := by
  refine ⟨waiting_evidence, ⟨fun t => ?_, fun t => ?_, fun t e h => ?_, fun t h => ?_⟩, ⟨fun i => ?_, fun f h => ?_, fun f h => ?_⟩⟩
  · rw [waiting_hearers]; decide
  · rw [waiting_hearers]; exact List.nodup_nil
  · rw [waiting_hearers] at h; exact absurd h (by simp)
  · rw [waiting_hearers] at h; exact absurd h (by decide)
  · rw [show waiting.verdicts.get i = {} from verdicts_empty i]
    exact ⟨fun q h => absurd h (by simp), fun k h => absurd h (by simp)⟩
  · exact absurd h (List.not_mem_nil)
  · exact absurd h (by simp [waiting, State.reset, State.withPending])

theorem test_witness_QueueAndAttentionStay : (∃ t, step waiting = .next t) ∧ waiting.QueueOk ∧ waiting.AttnOk :=
  ⟨⟨_, rfl⟩, ⟨by decide, ⟨0, rfl, rfl⟩, fun h => absurd h (by decide)⟩, rfl⟩

end Sys2Proof.Tests
end

section
/-!
The laws of the Wiring Plan (R14): what a request can do to the link table and the verdicts, and that every step
keeps the plan exclusive and the verdicts of unused ids NOT_EVALUATED.
-/

namespace Sys2Proof

-- ==== A write to a table ====

/-- What stands in a table after one of its entries is written. -/
theorem Table.get_set_some {α : Type} {n : Nat} {t : Table (Option α) n} {id i : Nat} {a : Option α} {x : α}
    (h : (t.set id a).get i = some x) : (i = id ∧ a = some x) ∨ (i ≠ id ∧ t.get i = some x) := by
  by_cases hi : i = id
  · subst hi
    refine Or.inl ⟨rfl, ?_⟩
    by_cases hn : i < n
    · rwa [Table.get_set_same t hn] at h
    · rw [Table.get_outside _ (Nat.le_of_not_lt hn)] at h
      exact absurd h (by simp)
  · exact Or.inr ⟨hi, by rwa [Table.get_set_ne t (Ne.symm hi)] at h⟩

/-- Writing one entry of a table takes the old entry out of a count and puts the new one in. -/
theorem Table.count_set {α : Type} [Inhabited α] {n : Nat} (t : Table α n) {i : Nat} (h : i < n) (a : α) (p : α → Bool) :
    (t.set i a).count p + (if p (t.get i) then 1 else 0) = t.count p + (if p a then 1 else 0) := by
  have hi : i < t.entries.length := by rw [t.size_eq]; exact h
  have hget : t.get i = t.entries[i] := by simp [Table.get, hi]
  have hle := List.boole_getElem_le_countP (p := p) hi
  rw [hget]
  simp only [Table.count, Table.set, List.countP_set hi]
  omega

end Sys2Proof

namespace Sys2Proof.Machine

-- ==== What a request can do to the plan ====

/-- The changes a request can make to the link table and the verdict table. -/
inductive PlanWork (s t : State) : Prop
  | kept (hl : t.links = s.links) (hv : t.verdicts = s.verdicts)
  | verdictsReset (hl : t.links = s.links) (hv : t.verdicts = Table.replicate _ {})
  | emptied (hl : t.links = Table.replicate _ none) (hv : t.verdicts = Table.replicate _ {})
  | removed (id : Nat) (hl : t.links = s.links.set id none) (hv : t.verdicts = s.verdicts.set id {})
  | stored (f : LinkFields) (k : LossClass) (hr : linkInRange f = true)
      (ho : overlap s.usedLinks f.id.toNat (linkOf f k) = none)
      (hl : t.links = s.links.set f.id.toNat (some (linkOf f k))) (hv : t.verdicts = s.verdicts.set f.id.toNat {})

/-- SET LINK, DROP LINK, CLEAR PLAN, START and RESET CAMPAIGN are the only requests that touch the two tables. -/
theorem BlockWork.planWork {src : SourceId} {s t : State} (h : BlockWork src s t) : PlanWork s t := by
  cases h with
  | storeLink f k _ hr _ ho => exact .stored f k hr ho rfl rfl
  | removeLink id => exact .removed id rfl rfl
  | emptyPlan => exact .emptied rfl rfl
  | campaignReset => exact .emptied rfl rfl
  | start => exact .verdictsReset rfl rfl
  | _ => exact .kept (by simp) (by simp)

-- ==== No two links share an endpoint (R14) ====

/-- Only the link table decides whether the plan is sound. -/
theorem State.PlanOk.of_links {s t : State} (h : s.PlanOk) (hl : t.links = s.links) : t.PlanOk where
  inRange := by rw [hl]; exact h.inRange
  exclusive := by rw [hl]; exact h.exclusive

/-- A plan all of whose records stood in a sound plan is sound. -/
theorem State.PlanOk.of_subset {s t : State} (h : s.PlanOk)
    (hl : ∀ i l, t.links.get i = some l → s.links.get i = some l) : t.PlanOk where
  inRange i l hi := h.inRange i l (hl i l hi)
  exclusive i j k l hij hk hl' := h.exclusive i j k l hij (hl i k hk) (hl j l hl')

/-- Spans that do not meet have no endpoint in common. -/
theorem not_both_of_spansMeet_false {a wa b wb : Nat} (h : spansMeet a wa b wb = false) (e : Nat) :
    ¬ ((a ≤ e ∧ e < a + wa) ∧ b ≤ e ∧ e < b + wb) := by
  simp only [spansMeet, Bool.and_eq_false_iff, decide_eq_false_iff_not] at h
  omega

theorem Link.coversRx_iff {l : Link} {e : Nat} : l.coversRx e = true ↔ l.rxStart ≤ e ∧ e < l.rxStart + l.width := by
  simp [Link.coversRx]

theorem Link.coversTx_iff {l : Link} {e : Nat} : l.coversTx e = true ↔ l.txStart ≤ e ∧ e < l.txStart + l.width := by
  simp [Link.coversTx]

/-- Two link records with no endpoint in common, on either side. -/
def Link.Apart (k l : Link) : Prop :=
  ∀ e, ¬ (k.coversRx e = true ∧ l.coversRx e = true) ∧ ¬ (k.coversTx e = true ∧ l.coversTx e = true)

theorem Link.Apart.symm {k l : Link} (h : k.Apart l) : l.Apart k :=
  fun e => ⟨fun hb => (h e).1 hb.symm, fun hb => (h e).2 hb.symm⟩

/-- A record that passes the overlap check is apart from every link but the one it replaces (R7). -/
theorem apart_of_overlap_none {s : State} {id : Nat} {k : Link} (h : overlap s.usedLinks id k = none) {j : Nat} {l : Link}
    (hj : s.links.get j = some l) (hne : j ≠ id) : k.Apart l := by
  intro e
  obtain ⟨hrx, htx⟩ := overlap_none h (j, l) (usedLinks_mem.2 hj) hne
  simp only [Link.coversRx_iff, Link.coversTx_iff]
  exact ⟨not_both_of_spansMeet_false hrx e, not_both_of_spansMeet_false htx e⟩

/-- A link record whose fields pass the range check of SET LINK is in range (R1, R6). -/
theorem linkOf_inRange {f : LinkFields} (k : LossClass) (h : linkInRange f = true) : (linkOf f k).InRange := by
  simp only [linkInRange, Bool.and_eq_true, decide_eq_true_eq] at h
  obtain ⟨⟨⟨⟨⟨⟨⟨_, htx⟩, hrx⟩, hlow⟩, hhigh⟩, htxSpan⟩, hrxSpan⟩, _⟩ := h
  refine ⟨htx, hrx, ⟨hlow, hhigh⟩, htxSpan, hrxSpan, fun b hb => ?_⟩
  have hbyte := f.budget.isLt
  simp only [linkOf, Option.ite_none_right_eq_some, Option.some.injEq] at hb
  omega

/-- A record in range and apart from every other link keeps the plan sound when it is stored (R8, R14). -/
theorem State.PlanOk.set_link {s t : State} (h : s.PlanOk) {id : Nat} {k : Link} (hr : k.InRange)
    (ha : ∀ j l, s.links.get j = some l → j ≠ id → k.Apart l) (ht : t.links = s.links.set id (some k)) : t.PlanOk where
  inRange i l hi := by
    rw [ht] at hi
    obtain ⟨_, hl⟩ | ⟨_, hl⟩ := Table.get_set_some hi
    · obtain rfl := Option.some.inj hl
      exact hr
    · exact h.inRange i l hl
  exclusive i j x y hij hx hy := by
    rw [ht] at hx hy
    obtain ⟨hi, hx⟩ | ⟨hi, hx⟩ := Table.get_set_some hx <;> obtain ⟨hj, hy⟩ | ⟨hj, hy⟩ := Table.get_set_some hy
    · exact absurd (hi.trans hj.symm) hij
    · obtain rfl := Option.some.inj hx
      exact ha j y hy hj
    · obtain rfl := Option.some.inj hy
      exact (ha i x hx hi).symm
    · exact h.exclusive i j x y hij hx hy

/-- An empty plan is sound. -/
theorem State.PlanOk.of_empty {t : State} (h : t.links = Table.replicate _ none) : t.PlanOk where
  inRange i l hi := by rw [h, links_empty] at hi; exact absurd hi (by simp)
  exclusive i j k l _ hi := by rw [h, links_empty] at hi; exact absurd hi (by simp)

theorem PlanWork.planOk {s t : State} (h : PlanWork s t) (hs : s.PlanOk) : t.PlanOk := by
  cases h with
  | kept hl => exact hs.of_links hl
  | verdictsReset hl => exact hs.of_links hl
  | emptied hl => exact .of_empty hl
  | removed id hl =>
    refine hs.of_subset fun i l hi => ?_
    rw [hl] at hi
    obtain ⟨_, hn⟩ | ⟨_, hi⟩ := Table.get_set_some hi
    · exact absurd hn (by simp)
    · exact hi
  | stored f k hr ho hl => exact hs.set_link (linkOf_inRange k hr) (fun _ _ hj hne => apart_of_overlap_none ho hj hne) hl

-- ==== Unused ids are NOT_EVALUATED ====

/-- A verdict record that is written NOT_EVALUATED reads so. -/
theorem verdicts_get_set_empty (v : Table VerdictRecord Config.linkIds) (i : Nat) : (v.set i {}).get i = {} := by
  by_cases hi : i < Config.linkIds
  · exact Table.get_set_same v hi {}
  · exact Table.get_outside _ (Nat.le_of_not_lt hi)

/-- A write of a link's entry together with NOT_EVALUATED in its verdict keeps the law. -/
theorem State.UnusedOk.set {s t : State} (h : s.UnusedOk) {id : Nat} {x : Option Link}
    (hl : t.links = s.links.set id x) (hv : t.verdicts = s.verdicts.set id {}) : t.UnusedOk := by
  intro i hi
  rw [hv]
  by_cases hid : id = i
  · subst hid
    exact verdicts_get_set_empty _ _
  · rw [hl, Table.get_set_ne _ hid] at hi
    rw [Table.get_set_ne _ hid, h i hi]

theorem PlanWork.unusedOk {s t : State} (h : PlanWork s t) (hs : s.UnusedOk) : t.UnusedOk := by
  cases h with
  | kept hl hv => exact fun i hi => by rw [hv]; exact hs i (by rwa [← hl])
  | verdictsReset _ hv => exact fun i _ => by rw [hv, verdicts_empty]
  | emptied _ hv => exact fun i _ => by rw [hv, verdicts_empty]
  | removed id hl hv => exact hs.set hl hv
  | stored f k _ _ hl hv => exact hs.set hl hv

/-- The step of the pass for a link writes the verdict of that link alone (R141). -/
theorem State.stepLink_verdicts (i : Nat) (x : Link) (s : State) :
    (s.stepLink i x).verdicts = s.verdicts.set i (s.evaluate x) := by
  unfold State.stepLink
  dsimp only
  split <;> simp [State.writeVerdict]

/-- The engine takes only links that are in use, so it writes no verdict of an unused id. -/
theorem State.UnusedOk.stepLink {s : State} (h : s.UnusedOk) {k : Nat} {x : Link} (hk : s.links.get k = some x) :
    (s.stepLink k x).UnusedOk := by
  intro i hi
  rw [State.stepLink_links] at hi
  have hne : k ≠ i := by
    rintro rfl
    rw [hk] at hi
    exact absurd hi (by simp)
  rw [State.stepLink_verdicts, Table.get_set_ne _ hne, h i hi]

-- ==== The two laws, over every step ====

theorem step_planOk {s t : State} (h : step s = .next t) (hs : s.PlanOk) : t.PlanOk :=
  step_keeps (P := State.PlanOk)
    (hp := fun _ _ _ _ hs => hs.of_links rfl)
    (hreset := .of_empty rfl)
    (hwork := fun _ _ _ hw hs => hw.planWork.planOk hs)
    (hexpire := fun s hs _ => hs.of_links s.expire_links)
    (hlink := fun s k x hs _ => hs.of_links (s.stepLink_links k x))
    (hun := fun s rx hs _ => hs.of_links (s.stepUnplanned_links rx))
    h hs

theorem step_unusedOk {s t : State} (h : step s = .next t) (hs : s.UnusedOk) : t.UnusedOk :=
  step_keeps (P := State.UnusedOk)
    (hp := fun _ _ _ _ hs => hs)
    (hreset := fun i _ => verdicts_empty i)
    (hwork := fun _ _ _ hw hs => hw.planWork.unusedOk hs)
    (hexpire := fun s hs _ => (PlanWork.kept s.expire_links s.expire_verdicts).unusedOk hs)
    (hlink := fun _ _ _ hs hn =>
      have ⟨_, _, _, _, hk⟩ := nextLink_some hn
      hs.stepLink hk)
    (hun := fun s rx hs _ => (PlanWork.kept (s.stepUnplanned_links rx) (s.stepUnplanned_verdicts rx)).unusedOk hs)
    h hs

/-- Settles O53: each law is carried by `step_keeps` through the changes of `PlanWork` and the steps of the pass. -/
theorem planStaysExclusive : Obligations.PlanStaysExclusive :=
  fun _ _ h => ⟨step_planOk h, step_unusedOk h⟩

end Sys2Proof.Machine
end

section
/-!
The requests of the Wiring Plan: SET LINK, DROP LINK and CLEAR PLAN, each refusal and each effect (R6–R10). First what they
share: how a station's request is answered, how many links a plan holds, and which link an offer conflicts with.
-/

namespace Sys2Proof.Machine

-- ==== A station's request is answered by its owning block ====

/-- A station's request is answered by what its block makes of the state with quiet lines; the answer sets those lines itself,
so that it may be given for a state whose lines have not been made quiet. -/
theorem State.FromStation.deliver_eq {s t : State} {rq : Requester} (h : s.FromStation rq) {n : Nat} (hn : n ≤ 128)
    {body : State → Answer} {r : Result} {p : List Byte}
    (hb : body s.quietLines = { state := t.quietLines, result := r, payload := p }) :
    s.deliver rq (some { cls := .station, lengthOk := true, body := body }) n = t.answered rq r p := by
  obtain ⟨hlisten, hsource⟩ := h
  have hpermits : RequesterClass.station.permits rq.source = true := decide_eq_true hsource
  rw [State.deliver_taken hlisten hn hpermits rfl hb rfl]
  rfl

theorem State.FromStation.exec_setLink {s t : State} {rq : Requester} (h : s.FromStation rq) {f : LinkFields} {r : Result}
    {p : List Byte} (hb : setLinkBody f s.quietLines = { state := t.quietLines, result := r, payload := p }) :
    exec (.setLink rq f) s = .next (t.answered rq r p) :=
  congrArg Host.Outcome.next (h.deliver_eq (by decide) hb)

theorem State.FromStation.exec_dropLink {s t : State} {rq : Requester} (h : s.FromStation rq) {id : Half} {r : Result}
    {p : List Byte} (hb : dropLinkBody id s.quietLines = { state := t.quietLines, result := r, payload := p }) :
    exec (.dropLink rq id) s = .next (t.answered rq r p) :=
  congrArg Host.Outcome.next (h.deliver_eq (by decide) hb)

theorem State.FromStation.exec_clearPlan {s t : State} {rq : Requester} (h : s.FromStation rq) {r : Result}
    {p : List Byte} (hb : clearPlanBody s.quietLines = { state := t.quietLines, result := r, payload := p }) :
    exec (.clearPlan rq) s = .next (t.answered rq r p) :=
  congrArg Host.Outcome.next (h.deliver_eq (by decide) hb)

/-- The plan is open in the states at rest (R5). -/
theorem State.open_iff_atRest {s : State} : s.Open ↔ s.seq.sweep.atRest = true := by
  unfold State.Open
  cases s.seq.sweep <;> simp [SweepState.atRest]

theorem State.not_open_iff_atRest {s : State} : ¬ s.Open ↔ s.seq.sweep.atRest = false := by
  rw [State.open_iff_atRest, Bool.not_eq_true]

-- ==== How many links a plan holds (R15) ====

/-- The used ids are as many as the entries in use. -/
theorem usedFrom_length (i : Nat) (l : List (Option Link)) : (usedFrom i l).length = l.countP Option.isSome := by
  induction l generalizing i with
  | nil => rfl
  | cons a l ih => cases a <;> simp [usedFrom, ih]

theorem State.linkCount_eq_count (s : State) : s.linkCount = s.links.count Option.isSome :=
  usedFrom_length 0 s.links.entries

/-- The link count after one entry of the link table is written. -/
theorem State.linkCount_set {s t : State} {id : Nat} (h : id ≤ 511) {x : Option Link} (ht : t.links = s.links.set id x) :
    t.linkCount + (if (s.links.get id).isSome then 1 else 0) = s.linkCount + (if x.isSome then 1 else 0) := by
  rw [State.linkCount_eq_count, State.linkCount_eq_count, ht]
  exact Table.count_set s.links (Nat.lt_succ_of_le h) x Option.isSome

theorem State.linkCount_empty {t : State} (h : t.links = Table.replicate _ none) : t.linkCount = 0 := by
  rw [State.linkCount_eq_count, h, Table.count_eq_zero]
  intro i _
  rw [links_empty]
  rfl

-- ==== The range check of SET LINK (R6) ====

/-- The class a byte names is the one with that code. -/
theorem classOf_eq_some {b : Byte} {k : LossClass} : classOf b = some k ↔ b.toNat = k.code := by
  constructor
  · intro h
    unfold classOf at h
    split_ifs at h <;> (cases h; subst b; rfl)
  · intro h
    have hb : b = BitVec.ofNat 8 k.code := by rw [← h, BitVec.ofNat_toNat, BitVec.setWidth_eq]
    subst hb
    cases k <;> rfl

theorem classOf_isSome {b : Byte} : (classOf b).isSome = true ↔ b.toNat ≤ 3 := by
  rw [Option.isSome_iff_exists]
  simp only [classOf_eq_some]
  constructor
  · rintro ⟨k, hk⟩
    rw [hk]
    cases k <;> decide
  · intro h
    interval_cases hb : b.toNat
    exacts [⟨.a, rfl⟩, ⟨.b, rfl⟩, ⟨.c, rfl⟩, ⟨.d, rfl⟩]

theorem linkInRange_iff {f : LinkFields} : linkInRange f = true ↔ offerInRange f := by
  simp only [linkInRange, offerInRange, Bool.and_eq_true, decide_eq_true_eq, classOf_isSome, and_assoc]

-- ==== Which link an offer conflicts with (R7) ====

/-- Spans that are not empty meet exactly where they have an endpoint in common. -/
theorem spansMeet_iff {a wa b wb : Nat} (ha : 1 ≤ wa) (hb : 1 ≤ wb) :
    spansMeet a wa b wb = true ↔ ∃ e, (b ≤ e ∧ e < b + wb) ∧ a ≤ e ∧ e < a + wa := by
  simp only [spansMeet, Bool.and_eq_true, decide_eq_true_eq]
  exact ⟨fun h => ⟨max a b, by omega, by omega⟩, fun ⟨e, h⟩ => by omega⟩

/-- The used ids come in ascending order. -/
theorem usedFrom_sorted (i : Nat) (l : List (Option Link)) : (usedFrom i l).Pairwise fun p q => p.1 < q.1 := by
  induction l generalizing i with
  | nil => exact .nil
  | cons a l ih =>
    cases a with
    | none => exact ih (i + 1)
    | some x => exact .cons (fun q hq => (usedFrom_mem.1 hq).1) (ih (i + 1))

/-- The link a search of the plan finds is the lowest that meets its condition. -/
theorem State.find_usedLinks_eq_some {s : State} {p : Nat × Link → Bool} {k : Nat} {l : Link} (hk : s.links.get k = some l)
    (hp : p (k, l) = true) (hlow : ∀ j x, s.links.get j = some x → p (j, x) = true → k ≤ j) :
    s.usedLinks.find? p = some (k, l) := by
  obtain ⟨before, after, hsplit⟩ := List.append_of_mem (usedLinks_mem.2 hk)
  have hsorted : s.usedLinks.Pairwise fun p q => p.1 < q.1 := usedFrom_sorted 0 _
  refine List.find?_eq_some_iff_append.2 ⟨hp, before, after, hsplit, fun q hq => ?_⟩
  have hless : q.1 < k := by
    rw [hsplit] at hsorted
    exact (List.pairwise_append.1 hsorted).2.2 q hq (k, l) List.mem_cons_self
  have hused : s.links.get q.1 = some q.2 := usedLinks_mem.1 (by rw [hsplit]; exact List.mem_append_left _ hq)
  by_contra hn
  have := hlow q.1 q.2 hused (by simpa using hn)
  omega

/-- Link `j`, another than `id`, has an endpoint in common with `l`, on the side whose spans begin at `start`. -/
def State.Meets (s : State) (start : Link → Nat) (id : Nat) (l : Link) (j : Nat) : Prop :=
  j ≠ id ∧ ∃ x e, s.links.get j = some x ∧ (start x ≤ e ∧ e < start x + x.width) ∧ start l ≤ e ∧ e < start l + l.width

theorem State.sharesRx_iff_meets {s : State} {f : LinkFields} (k : LossClass) {j : Nat} :
    s.SharesRx f j ↔ s.Meets Link.rxStart f.id.toNat (linkOf f k) j := by
  simp only [State.SharesRx, State.Meets, Link.coversRx_iff]
  rfl

theorem State.sharesTx_iff_meets {s : State} {f : LinkFields} (k : LossClass) {j : Nat} :
    s.SharesTx f j ↔ s.Meets Link.txStart f.id.toNat (linkOf f k) j := by
  simp only [State.SharesTx, State.Meets, Link.coversTx_iff]
  rfl

/-- The condition by which the overlap check searches one side of the plan. -/
def conflicts (start : Link → Nat) (id : Nat) (l : Link) (p : Nat × Link) : Bool :=
  p.1 != id && spansMeet (start l) l.width (start p.2) p.2.width

theorem rxConflict_eq_find (plan : List (Nat × Link)) (id : Nat) (l : Link) :
    rxConflict plan id l = (plan.find? (conflicts Link.rxStart id l)).map Prod.fst := rfl

theorem txConflict_eq_find (plan : List (Nat × Link)) (id : Nat) (l : Link) :
    txConflict plan id l = (plan.find? (conflicts Link.txStart id l)).map Prod.fst := rfl

/-- In a sound plan the search finds exactly the links that have an endpoint in common with the offer. -/
theorem State.PlanOk.meets_iff {s : State} (h : s.PlanOk) {start : Link → Nat} {id : Nat} {l : Link} (hl : 1 ≤ l.width)
    {j : Nat} : s.Meets start id l j ↔ ∃ x, s.links.get j = some x ∧ conflicts start id l (j, x) = true := by
  have hmeet : ∀ x, s.links.get j = some x → (spansMeet (start l) l.width (start x) x.width = true ↔
      ∃ e, (start x ≤ e ∧ e < start x + x.width) ∧ start l ≤ e ∧ e < start l + l.width) :=
    fun x hx => spansMeet_iff hl (h.inRange j x hx).width.1
  simp only [State.Meets, conflicts, Bool.and_eq_true, bne_iff_ne]
  constructor
  · rintro ⟨hne, x, e, hx, he⟩
    exact ⟨x, hx, hne, (hmeet x hx).2 ⟨e, he⟩⟩
  · rintro ⟨x, hx, hne, hm⟩
    obtain ⟨e, he⟩ := (hmeet x hx).1 hm
    exact ⟨hne, x, e, hx, he⟩

/-- The conflict a side reports is its lowest conflicting link. -/
theorem State.PlanOk.find_lowest {s : State} (h : s.PlanOk) {start : Link → Nat} {id : Nat} {l : Link} (hl : 1 ≤ l.width)
    {k : Nat} (hk : s.Meets start id l k) (hlow : ∀ j, s.Meets start id l j → k ≤ j) :
    (s.usedLinks.find? (conflicts start id l)).map Prod.fst = some k := by
  obtain ⟨x, hx, hc⟩ := (h.meets_iff hl).1 hk
  rw [State.find_usedLinks_eq_some hx hc fun j y hy hcy => hlow j ((h.meets_iff hl).2 ⟨y, hy, hcy⟩)]
  rfl

/-- A side with no conflicting link reports none. -/
theorem State.PlanOk.find_none {s : State} (h : s.PlanOk) {start : Link → Nat} {id : Nat} {l : Link} (hl : 1 ≤ l.width)
    (hn : ∀ j, ¬ s.Meets start id l j) : (s.usedLinks.find? (conflicts start id l)).map Prod.fst = none := by
  rw [Option.map_eq_none_iff, List.find?_eq_none]
  intro p hp hc
  exact hn p.1 ((h.meets_iff hl).2 ⟨p.2, usedLinks_mem.1 hp, hc⟩)

theorem overlap_rx {plan : List (Nat × Link)} {id k : Nat} {l : Link} (h : rxConflict plan id l = some k) :
    overlap plan id l = some (0, k) := by
  simp [overlap, h]

theorem overlap_of_rxConflict_none {plan : List (Nat × Link)} {id : Nat} {l : Link} (h : rxConflict plan id l = none) :
    overlap plan id l = (txConflict plan id l).map fun k => (1, k) := by
  simp [overlap, h]

section Offer

variable {s : State} {f : LinkFields} (k : LossClass) (h : s.PlanOk) (hf : offerInRange f)
include h hf

theorem State.PlanOk.overlap_lowest_rx {j : Nat} (hj : s.SharesRx f j) (hlow : ∀ i, s.SharesRx f i → j ≤ i) :
    overlap s.usedLinks f.id.toNat (linkOf f k) = some (0, j) := by
  obtain ⟨-, -, -, hwidth, -⟩ := hf
  simp only [State.sharesRx_iff_meets k] at hj hlow
  exact overlap_rx (h.find_lowest hwidth hj hlow)

theorem State.PlanOk.rxConflict_none (hn : ∀ i, ¬ s.SharesRx f i) :
    rxConflict s.usedLinks f.id.toNat (linkOf f k) = none := by
  obtain ⟨-, -, -, hwidth, -⟩ := hf
  simp only [State.sharesRx_iff_meets k] at hn
  exact h.find_none hwidth hn

theorem State.PlanOk.overlap_lowest_tx (hn : ∀ i, ¬ s.SharesRx f i) {j : Nat} (hj : s.SharesTx f j)
    (hlow : ∀ i, s.SharesTx f i → j ≤ i) : overlap s.usedLinks f.id.toNat (linkOf f k) = some (1, j) := by
  rw [overlap_of_rxConflict_none (h.rxConflict_none k hf hn)]
  obtain ⟨-, -, -, hwidth, -⟩ := hf
  simp only [State.sharesTx_iff_meets k] at hj hlow
  rw [txConflict_eq_find, h.find_lowest hwidth hj hlow]
  rfl

theorem State.PlanOk.overlap_none (hrx : ∀ i, ¬ s.SharesRx f i) (htx : ∀ i, ¬ s.SharesTx f i) :
    overlap s.usedLinks f.id.toNat (linkOf f k) = none := by
  rw [overlap_of_rxConflict_none (h.rxConflict_none k hf hrx)]
  obtain ⟨-, -, -, hwidth, -⟩ := hf
  simp only [State.sharesTx_iff_meets k] at htx
  rw [txConflict_eq_find, h.find_none hwidth htx]
  rfl

end Offer

-- ==== SET LINK (R6–R8) ====

theorem setLinkBody_locked {f : LinkFields} {s : State} (h : ¬ s.Open) : setLinkBody f s = refuse .busy s := by
  simp [setLinkBody, State.not_open_iff_atRest.1 h]

theorem setLinkBody_outOfRange {f : LinkFields} {s : State} (h : s.Open) (hf : ¬ offerInRange f) :
    setLinkBody f s = refuse .range s := by
  simp [setLinkBody, State.open_iff_atRest.1 h, linkInRange_iff, hf]

/-- An offer that passes the lock and the range check comes to the overlap check. -/
theorem setLinkBody_offered {f : LinkFields} {s : State} {k : LossClass} (h : s.Open) (hf : offerInRange f)
    (hk : classOf f.cls = some k) : setLinkBody f s = s.offerLink f.id.toNat (linkOf f k) := by
  simp [setLinkBody, State.open_iff_atRest.1 h, linkInRange_iff.2 hf, hk]

theorem setLinkBody_overlap {f : LinkFields} {s : State} {k : LossClass} (h : s.Open) (hf : offerInRange f)
    (hk : classOf f.cls = some k) {side j : Nat} (ho : overlap s.usedLinks f.id.toNat (linkOf f k) = some (side, j)) :
    setLinkBody f s = refuseWith .overlap (byte side :: twoBytes j) s := by
  simp [setLinkBody_offered h hf hk, State.offerLink, ho, be, byte, twoBytes]

theorem setLinkBody_stored {f : LinkFields} {s : State} {k : LossClass} (h : s.Open) (hf : offerInRange f)
    (hk : classOf f.cls = some k) (ho : overlap s.usedLinks f.id.toNat (linkOf f k) = none) :
    setLinkBody f s = accept [] (s.storeLink f.id.toNat (linkOf f k)) := by
  simp [setLinkBody_offered h hf hk, State.offerLink, ho]

/-- A class byte in range names a class. -/
theorem offerInRange.exists_class {f : LinkFields} (hf : offerInRange f) : ∃ k, classOf f.cls = some k := by
  obtain ⟨-, -, -, -, -, -, -, hclass⟩ := hf
  exact Option.isSome_iff_exists.1 (classOf_isSome.2 hclass)

/-- Settles O17: no shared endpoint means no conflict, and the entry written counts where none stood before. -/
theorem setLinkStoresTheRecord : Obligations.SetLinkStoresTheRecord := by
  intro s rq f k hrq hplan hopen hf hclass hrx htx
  have hid : f.id.toNat ≤ 511 := hf.1
  have hstore := setLinkBody_stored (s := s.quietLines) hopen hf (classOf_eq_some.2 hclass) (hplan.overlap_none k hf hrx htx)
  refine ⟨s.storeLink f.id.toNat (linkOf f k), rfl, hrq.exec_setLink hstore, ?_⟩
  have hcount := State.linkCount_set hid (s.storeLink_links f.id.toNat (linkOf f k))
  cases hl : s.links.get f.id.toNat <;> simpa [hl] using hcount

/-- Settles O18: the checks fail in the order of the definition, and the overlap check reports the lowest link of the first
side that has one. -/
theorem setLinkRefusals : Obligations.SetLinkRefusals := by
  intro s rq f hrq
  refine ⟨fun hlocked => ?_, fun hopen hf => ?_, fun j hplan hopen hf hj hlow => ?_, fun j hplan hopen hf hrx hj hlow => ?_⟩
  · exact hrq.exec_setLink (setLinkBody_locked (s := s.quietLines) hlocked)
  · exact hrq.exec_setLink (setLinkBody_outOfRange (s := s.quietLines) hopen hf)
  · obtain ⟨k, hk⟩ := hf.exists_class
    exact hrq.exec_setLink (setLinkBody_overlap (s := s.quietLines) hopen hf hk (hplan.overlap_lowest_rx k hf hj hlow))
  · obtain ⟨k, hk⟩ := hf.exists_class
    exact hrq.exec_setLink (setLinkBody_overlap (s := s.quietLines) hopen hf hk (hplan.overlap_lowest_tx k hf hrx hj hlow))

-- ==== DROP LINK and CLEAR PLAN (R9, R10) ====

theorem dropLinkBody_locked {id : Half} {s : State} (h : ¬ s.Open) : dropLinkBody id s = refuse .busy s := by
  simp [dropLinkBody, State.not_open_iff_atRest.1 h]

theorem dropLinkBody_outOfRange {id : Half} {s : State} (h : s.Open) (hid : 511 < id.toNat) :
    dropLinkBody id s = refuse .range s := by
  simp [dropLinkBody, State.open_iff_atRest.1 h, Nat.not_le.2 hid]

theorem dropLinkBody_unused {id : Half} {s : State} (h : s.Open) (hid : id.toNat ≤ 511) (hl : s.links.get id.toNat = none) :
    dropLinkBody id s = refuse .empty s := by
  simp [dropLinkBody, State.open_iff_atRest.1 h, hid, hl]

theorem dropLinkBody_used {id : Half} {s : State} {l : Link} (h : s.Open) (hid : id.toNat ≤ 511)
    (hl : s.links.get id.toNat = some l) : dropLinkBody id s = accept [] (s.removeLink id.toNat) := by
  simp [dropLinkBody, State.open_iff_atRest.1 h, hid, hl]

theorem clearPlanBody_locked {s : State} (h : ¬ s.Open) : clearPlanBody s = refuse .busy s := by
  simp [clearPlanBody, State.not_open_iff_atRest.1 h]

theorem clearPlanBody_open {s : State} (h : s.Open) : clearPlanBody s = accept [] s.emptyPlan := by
  simp [clearPlanBody, State.open_iff_atRest.1 h]

/-- Settles O19, clause by clause: the refusals, then the entry or the table emptied and what it takes out of the count. -/
theorem dropAndClearPlan : Obligations.DropAndClearPlan := by
  intro s rq hrq
  refine ⟨fun id hlocked => ?_, fun id hopen hid => ?_, fun id hopen hid hl => ?_, fun id l hopen hid hl => ?_,
    fun hlocked => ?_, fun hopen => ?_⟩
  · exact hrq.exec_dropLink (dropLinkBody_locked (s := s.quietLines) hlocked)
  · exact hrq.exec_dropLink (dropLinkBody_outOfRange (s := s.quietLines) hopen hid)
  · exact hrq.exec_dropLink (dropLinkBody_unused (s := s.quietLines) hopen hid hl)
  · have hcount := State.linkCount_set hid (s.removeLink_links id.toNat)
    rw [hl] at hcount
    exact ⟨s.removeLink id.toNat, rfl, hrq.exec_dropLink (dropLinkBody_used (s := s.quietLines) hopen hid hl), hcount⟩
  · exact hrq.exec_clearPlan (clearPlanBody_locked (s := s.quietLines) hlocked)
  · exact ⟨s.emptyPlan, rfl, hrq.exec_clearPlan (clearPlanBody_open (s := s.quietLines) hopen),
      State.linkCount_empty s.emptyPlan_links⟩

end Sys2Proof.Machine
end

section
/-!
Sound slot records (R18, R19): what each change of a record, and of the sweep state it stands in, needs to leave it sound.
-/

namespace Sys2Proof.Machine

-- ==== Sweep states past ARMING ====

/-- The sweep states from the end of ARMING to the end of the sweep: by definition those in which ACTIVE and EXCLUDED exist
(R19, `RosterState.exists`). -/
def SweepState.pastArming (w : SweepState) : Bool := !w.atRest && w != .arming

theorem SweepState.pastArming_iff {w : SweepState} : w.pastArming = true ↔ w.atRest = false ∧ w ≠ .arming := by
  simp [SweepState.pastArming]

theorem SweepState.ne_arming_of_pastArming {w : SweepState} (h : w.pastArming = true) : w ≠ .arming :=
  (SweepState.pastArming_iff.1 h).2

theorem SweepState.not_atRest_of_pastArming {w : SweepState} (h : w.pastArming = true) : w.atRest = false :=
  (SweepState.pastArming_iff.1 h).1

theorem SweepState.ne_arming_of_atRest {w : SweepState} (h : w.atRest = true) : w ≠ .arming := by
  rintro rfl
  exact absurd h (by decide)

theorem RosterState.exists_of_pastArming {w : SweepState} (h : w.pastArming = true) {x : RosterState} (hx : x ≠ .ready) :
    x.exists w = true := by
  obtain ⟨hrest, harming⟩ := SweepState.pastArming_iff.1 h
  cases x <;> simp_all [RosterState.exists]

/-- Outside ARMING participation is the roster state's alone. -/
theorem RosterState.participates_congr {w w' : SweepState} (h : w ≠ .arming) (h' : w' ≠ .arming) (x : RosterState) :
    x.participates w = x.participates w' := by
  cases x <;> simp [RosterState.participates, h, h']

theorem RosterState.eq_arming_of_ready {w : SweepState} (h : RosterState.ready.exists w = true) : w = .arming :=
  eq_of_beq h

-- ==== Sound records ====

namespace SlotRecord

/-- The record of an EMPTY slot is sound in every sweep state. -/
theorem Sound.of_empty (w : SweepState) : Sound w {} where
  blank _ := rfl
  source h := absurd rfl h
  lanes h := absurd rfl h
  claimed := by decide
  claimant a h := absurd h (by simp)
  participating := rfl
  role := rfl
  missed := by decide
  fresh _ := rfl
  active h := absurd h (by decide)

section Changes

variable {w w' : SweepState} {r : SlotRecord} (h : r.Sound w)
include h

theorem Sound.ne_empty_of_holds {a : SourceId} (ha : r.holds a = true) : r.state ≠ .empty := by
  intro he
  rw [h.blank he] at ha
  exact absurd ha (by simp [SlotRecord.holds])

theorem Sound.ne_empty_of_source {a : SourceId} (ha : r.source = some a) : r.state ≠ .empty :=
  h.ne_empty_of_holds (a := a) (by simp [SlotRecord.holds, ha])

theorem Sound.claimant_none (hc : r.state ≠ .conflict) : r.claimant = none := by
  have hsome := mt h.claimed.1 hc
  simpa using hsome

/-- What a record marks about pages, holds and the quiet call is free in a slot that is not EMPTY. -/
theorem Sound.marked (he : r.state ≠ .empty) (pages : BitVec 2) (charge : Nat) (owed acked : Bool) :
    Sound w { r with pages := pages, holdCharged := charge, quietOwed := owed, quietAcked := acked } :=
  { h with blank := fun hb => absurd hb he }

/-- The sweep state may move among those past ARMING. -/
theorem Sound.moved (hw : w.pastArming = true) (hw' : w'.pastArming = true) : r.Sound w' :=
  { h with
    participating := h.participating.trans (RosterState.participates_congr
      (SweepState.ne_arming_of_pastArming hw) (SweepState.ne_arming_of_pastArming hw') _)
    role := RosterState.exists_of_pastArming hw' fun hr =>
      SweepState.ne_arming_of_pastArming hw (RosterState.eq_arming_of_ready (by rw [← hr]; exact h.role))
    fresh := fun ha => absurd ha (SweepState.ne_arming_of_pastArming hw') }

/-- A slot with one source, neither EMPTY nor in CONFLICT, may take any other such state that the sweep state has, with the
participation and the missed run that go with it. -/
theorem Sound.restated (hr : r.state ≠ .empty ∧ r.state ≠ .conflict) {x : RosterState} {p b : Bool} {m : Nat}
    (hx : x ≠ .empty ∧ x ≠ .conflict) (hpart : p = x.participates w') (hrole : x.exists w' = true) (hm : m ≤ 3)
    (hfresh : w' = .arming → m = 0) (hactive : x = .active → m ≤ 2 ∧ b = true) :
    Sound w' { r with state := x, participating := p, missed := m, activated := b } where
  blank hb := absurd hb hx.1
  source _ := h.source hr.1
  lanes _ := h.lanes hr.1
  claimed := by simp [h.claimant_none hr.2, hx.2]
  claimant := h.claimant
  participating := hpart
  role := hrole
  missed := hm
  fresh := hfresh
  active := hactive

/-- A new lane count and no pages, for an ENROLLED slot (R22). -/
theorem Sound.reenrolled (he : r.state ≠ .empty) {n : Nat} (hn : 1 ≤ n ∧ n ≤ 32) :
    Sound w { r with lanes := some n, pages := 0 } :=
  { h with
    blank := fun hb => absurd hb he
    lanes := fun _ => ⟨n, rfl, hn⟩ }

/-- A slot READY, ACTIVE or EXCLUDED may become LOST, with a missed run of up to 3 past ARMING (R22, R98). -/
theorem Sound.becomesLost (hr : r.state = .ready ∨ r.state = .active ∨ r.state = .excluded) {m : Nat} (hm : m ≤ 3)
    (hfresh : w = .arming → m = 0) : Sound w { r with state := .lost, missed := m } := by
  have hrole := h.role
  have hpart := h.participating
  have hlive : w.atRest = false ∧ r.participating = true := by
    rcases hr with hr | hr | hr <;> rw [hr] at hrole hpart
    · rw [RosterState.eq_arming_of_ready hrole]
      exact ⟨rfl, hpart⟩
    · exact ⟨SweepState.not_atRest_of_pastArming hrole, hpart⟩
    · exact ⟨SweepState.not_atRest_of_pastArming hrole, hpart⟩
  exact h.restated (by rcases hr with hr | hr | hr <;> simp [hr]) (by decide) hlive.2
    (by simp [RosterState.exists, hlive.1]) hm hfresh (fun ha => absurd ha (by decide))

/-- A second source claims the slot (R24). -/
theorem Sound.contested {src : SourceId} (he : r.state ≠ .empty) (hp : isProbe src = true)
    (ha : r.source ≠ some src) : Sound w (r.contested src) where
  blank hb := absurd hb (by simp [SlotRecord.contested])
  source _ := h.source he
  lanes _ := h.lanes he
  claimed := by simp [SlotRecord.contested]
  claimant a hc := by
    obtain rfl : src = a := Option.some.inj hc
    exact ⟨hp, ha⟩
  participating := rfl
  role := rfl
  missed := h.missed
  fresh := h.fresh
  active hb := absurd hb (by simp [SlotRecord.contested])

/-- The sweep ends for a slot (R37). -/
theorem Sound.sweepEnd (hw' : w'.atRest = true) : Sound w' r.sweepEnd := by
  have harming := SweepState.ne_arming_of_atRest hw'
  have hpart := h.participating
  by_cases hp : r.participating = true
  · have hne : r.state ≠ .empty ∧ r.state ≠ .conflict := by
      constructor <;> (intro hs; rw [hs, hp] at hpart; exact absurd hpart (by simp [RosterState.participates]))
    rw [SlotRecord.sweepEnd, if_pos hp]
    exact h.restated hne (by decide) (by simp [RosterState.participates, harming]) rfl h.missed
      (fun ha => absurd ha harming) (fun ha => absurd ha (by decide))
  · rw [SlotRecord.sweepEnd, if_neg hp]
    rw [Bool.not_eq_true] at hp
    rw [hp] at hpart
    exact
      { h with
        participating := by
          rw [hp]
          cases hs : r.state <;> simp_all [RosterState.participates]
        role := by cases hs : r.state <;> simp_all [RosterState.exists, RosterState.participates]
        fresh := fun ha => absurd ha harming }

/-- A slot at START, in a state at rest (R29, R39). -/
theorem Sound.atStart (hw : w.atRest = true) : Sound .arming r.atStart where
  blank hb := by
    have hr := h.blank hb
    subst hr
    rfl
  source := h.source
  lanes := h.lanes
  claimed := h.claimed
  claimant := h.claimant
  participating := by
    have hrole := h.role
    show (r.state == .enrolled) = r.state.participates .arming
    cases hs : r.state <;> simp_all [RosterState.participates, RosterState.exists, SweepState.ne_arming_of_atRest]
  role := by
    have hrole := h.role
    show r.state.exists .arming = true
    cases hs : r.state <;> simp_all [RosterState.exists, SweepState.ne_arming_of_atRest]
  missed := Nat.zero_le _
  fresh _ := rfl
  active ha := by
    have hrole := h.role
    rw [show r.state = .active from ha] at hrole
    exact absurd hw (by simp [SweepState.not_atRest_of_pastArming hrole])

/-- The missed run counted at a marker (R98). -/
theorem Sound.countMissed (x : ReportWindow) : Sound w (r.countMissed x) := by
  unfold SlotRecord.countMissed
  split
  · rename_i hs
    have hrole := h.role
    rw [hs] at hrole
    have harming := SweepState.ne_arming_of_pastArming hrole
    have counted : ∀ m, m ≤ 2 → Sound w { r with missed := m } := fun m hm =>
      { h with
        blank := fun hb => absurd hb (by simp [hs])
        missed := Nat.le_succ_of_le hm
        fresh := fun ha => absurd ha harming
        active := fun ha => ⟨hm, (h.active ha).2⟩ }
    split
    · exact counted 0 (by omega)
    · split
      · exact counted _ (by omega)
      · exact h.becomesLost (.inr (.inl hs)) (Nat.le_refl 3) fun ha => absurd ha harming
  · exact h

end Changes

/-- READY taken in ARMING (R31): a slot there that is neither EMPTY nor in CONFLICT participates. -/
theorem Sound.becomesReady {r : SlotRecord} (h : r.Sound .arming) (he : r.state ≠ .empty)
    (hc : r.state ≠ .conflict) : Sound .arming { r with state := .ready } := by
  have hpart : r.participating = true := by
    rw [h.participating]
    cases hs : r.state with
    | empty => exact absurd hs he
    | conflict => exact absurd hs hc
    | _ => rfl
  exact h.restated ⟨he, hc⟩ (by decide) hpart rfl h.missed h.fresh (fun ha => absurd ha (by decide))

/-- ARMING ends for a slot (R32). -/
theorem Sound.endArming {w : SweepState} {r : SlotRecord} (h : r.Sound .arming) (hw : w.pastArming = true) :
    Sound w r.endArming := by
  have hpart := h.participating
  have hrole := h.role
  have harming := SweepState.ne_arming_of_pastArming hw
  have kept : r.state = .empty ∨ r.state = .conflict ∨ r.state = .lost → Sound w r := fun hs =>
    { h with
      participating := by rcases hs with hs | hs | hs <;> rw [hpart, hs] <;> rfl
      role := RosterState.exists_of_pastArming hw (by rcases hs with hs | hs | hs <;> simp [hs])
      fresh := fun ha => absurd ha harming }
  cases hs : r.state with
  | empty => simpa [SlotRecord.endArming, hs] using kept (.inl hs)
  | conflict => simpa [SlotRecord.endArming, hs] using kept (.inr (.inl hs))
  | lost => simpa [SlotRecord.endArming, hs] using kept (.inr (.inr hs))
  | ready =>
    have hp : r.participating = true := by rw [hpart, hs]; rfl
    have hmissed : r.missed ≤ 2 := by rw [h.fresh rfl]; decide
    simpa [SlotRecord.endArming, hs] using h.restated (x := .active) (b := true) (by simp [hs]) (by decide) hp
      (RosterState.exists_of_pastArming hw (by decide)) h.missed (fun ha => absurd ha harming) (fun _ => ⟨hmissed, rfl⟩)
  | enrolled =>
    have hp : r.participating = true := by rw [hpart, hs]; rfl
    simpa [SlotRecord.endArming, hs, hp] using h.restated (x := .excluded) (b := r.activated) (by simp [hs]) (by decide)
      hp (RosterState.exists_of_pastArming hw (by decide)) h.missed (fun ha => absurd ha harming)
      (fun ha => absurd ha (by decide))
  | active => rw [hs] at hrole; exact absurd hrole (by decide)
  | excluded => rw [hs] at hrole; exact absurd hrole (by decide)

end SlotRecord

/-- A slot newly enrolled is sound (R21). -/
theorem enrolledRecord_sound {src : SourceId} (hp : isProbe src = true) {n : Nat} (hn : 1 ≤ n ∧ n ≤ 32)
    (w : SweepState) : (enrolledRecord src n (w == .arming)).Sound w where
  blank hb := absurd hb (by simp [enrolledRecord])
  source _ := ⟨src, rfl, hp⟩
  lanes _ := ⟨n, rfl, hn⟩
  claimed := by simp [enrolledRecord]
  claimant a h := absurd h (by simp [enrolledRecord])
  participating := rfl
  role := rfl
  missed := Nat.zero_le _
  fresh _ := rfl
  active hb := absurd hb (by simp [enrolledRecord])

end Sys2Proof.Machine
end

section
/-!
Slot records that follow slot records: the relation that a step has to the roster when it names no new source, and the shared
operations of the sweep, each of which leaves a roster that follows the one before.
-/

namespace Sys2Proof.Machine

-- ==== Records that follow records ====

/-- A record `r'` in sweep state `w'` follows a record `r` in sweep state `w`: it names the same sources, and it is sound
if `r` was. -/
structure SlotRecord.Follows (w w' : SweepState) (r r' : SlotRecord) : Prop where
  source   : r'.source = r.source
  claimant : r'.claimant = r.claimant
  sound    : r.Sound w → r'.Sound w'

/-- Every slot record of `t` follows that of `s`. -/
def State.RosterFollows (s t : State) : Prop :=
  ∀ i, SlotRecord.Follows s.seq.sweep t.seq.sweep (s.slots.get i) (t.slots.get i)

namespace State.RosterFollows

variable {s t u : State}

theorem of_same (hr : t.slots = s.slots) (hw : t.seq.sweep = s.seq.sweep) : s.RosterFollows t := by
  intro i
  rw [hr, hw]
  exact ⟨rfl, rfl, id⟩

theorem refl (s : State) : s.RosterFollows s := of_same rfl rfl

theorem trans (h : s.RosterFollows t) (h' : t.RosterFollows u) : s.RosterFollows u := fun i =>
  ⟨(h' i).source.trans (h i).source, (h' i).claimant.trans (h i).claimant, fun hs => (h' i).sound ((h i).sound hs)⟩

/-- What follows a state follows every state with the same roster and sweep state. -/
theorem after (h : t.RosterFollows u) (hr : t.slots = s.slots) (hw : t.seq.sweep = s.seq.sweep) : s.RosterFollows u :=
  (of_same hr hw).trans h

/-- Only the records within the table need to be looked at. -/
theorem of_inside (h : ∀ i, i < 24 → SlotRecord.Follows s.seq.sweep t.seq.sweep (s.slots.get i) (t.slots.get i)) :
    s.RosterFollows t := by
  intro i
  by_cases hi : i < 24
  · exact h i hi
  · rw [Table.get_outside s.slots (Nat.le_of_not_lt hi), Table.get_outside t.slots (Nat.le_of_not_lt hi)]
    exact ⟨rfl, rfl, fun _ => SlotRecord.Sound.of_empty _⟩

/-- Every record changed in the same way. -/
theorem of_map {f : SlotRecord → SlotRecord} (hr : t.slots = s.slots.map f)
    (hf : ∀ r, SlotRecord.Follows s.seq.sweep t.seq.sweep r (f r)) : s.RosterFollows t :=
  of_inside fun i hi => by
    rw [hr, Table.get_map f s.slots hi]
    exact hf _

/-- One record replaced. -/
theorem of_setSlot {i : Nat} {r : SlotRecord} (h : SlotRecord.Follows s.seq.sweep s.seq.sweep (s.slots.get i) r) :
    s.RosterFollows (s.setSlot i r) :=
  of_inside fun j hj => by
    rw [State.setSlot_slots, State.setSlot_seq]
    by_cases hij : i = j
    · subst hij
      rwa [Table.get_set_same _ hj]
    · rw [Table.get_set_ne _ hij]
      exact ⟨rfl, rfl, id⟩

theorem of_pastArming (hr : t.slots = s.slots) (hw : s.seq.sweep.pastArming = true) (hw' : t.seq.sweep.pastArming = true) :
    s.RosterFollows t := by
  intro i
  rw [hr]
  exact ⟨rfl, rfl, fun h => h.moved hw hw'⟩

end State.RosterFollows

-- ==== The shared operations only make records follow ====

theorem SlotRecord.called_ne_empty {r : SlotRecord} (h : r.called = true) : r.state ≠ .empty := by
  intro he
  simp [SlotRecord.called, SlotRecord.isLost, he] at h

theorem SlotRecord.callQuiet_follows (w : SweepState) (r : SlotRecord) : Follows w w r r.callQuiet := by
  unfold SlotRecord.callQuiet
  split
  · rename_i hc
    exact ⟨rfl, rfl, fun h => h.marked (called_ne_empty hc) r.pages r.holdCharged true false⟩
  · exact ⟨rfl, rfl, id⟩

theorem SlotRecord.settleQuiet_follows (w : SweepState) (r : SlotRecord) : Follows w w r r.settleQuiet := by
  unfold SlotRecord.settleQuiet
  split
  · rename_i ho
    refine ⟨rfl, rfl, fun h => h.marked (fun he => ?_) r.pages r.holdCharged r.quietOwed true⟩
    rw [h.blank he] at ho
    exact absurd ho (by decide)
  · exact ⟨rfl, rfl, id⟩

theorem SlotRecord.sweepEnd_follows {w w' : SweepState} (hw : w'.atRest = true) (r : SlotRecord) :
    Follows w w' r r.sweepEnd :=
  ⟨by unfold SlotRecord.sweepEnd; split <;> rfl, by unfold SlotRecord.sweepEnd; split <;> rfl, fun h => h.sweepEnd hw⟩

theorem SlotRecord.countMissed_follows (w : SweepState) (x : ReportWindow) (r : SlotRecord) :
    Follows w w r (r.countMissed x) := by
  refine ⟨?_, ?_, fun h => h.countMissed x⟩ <;>
    (unfold SlotRecord.countMissed; split_ifs <;> rfl)

theorem SlotRecord.endArming_follows {w : SweepState} (hw : w.pastArming = true) (r : SlotRecord) :
    Follows .arming w r r.endArming := by
  have kept : r.endArming.source = r.source ∧ r.endArming.claimant = r.claimant := by
    unfold SlotRecord.endArming
    split
    case h_2 => split <;> exact ⟨rfl, rfl⟩
    all_goals exact ⟨rfl, rfl⟩
  exact ⟨kept.1, kept.2, fun h => h.endArming hw⟩

namespace State

theorem enterTerminal_follows {w : SweepState} (hw : w.atRest = true) (s : State) : s.RosterFollows (s.enterTerminal w) :=
  .of_map rfl (SlotRecord.sweepEnd_follows hw)

theorem startQuietCall_follows (s : State) : s.RosterFollows s.startQuietCall :=
  .of_map rfl (SlotRecord.callQuiet_follows _)

theorem ensureQuietCall_follows (s : State) : s.RosterFollows s.ensureQuietCall := by
  unfold State.ensureQuietCall
  split
  · exact s.startQuietCall_follows
  · exact .refl s
  · exact .refl s

theorem ensureQuietCall_sweep (s : State) : s.ensureQuietCall.seq.sweep = s.seq.sweep := by
  unfold State.ensureQuietCall
  split <;> rfl

theorem enterAborting_follows {s : State} (hw : s.seq.sweep.pastArming = true) : s.RosterFollows s.enterAborting :=
  .of_pastArming rfl hw rfl

theorem abortRunning_follows {s : State} (c : AbortCause) (hw : s.seq.sweep.pastArming = true) :
    s.RosterFollows (s.abortRunning c) :=
  have hcall : ((s.closeSweep).setCause c).RosterFollows ((s.closeSweep).setCause c).startQuietCall :=
    startQuietCall_follows _
  (hcall.after rfl rfl).trans (enterAborting_follows hw)

theorem abortStopped_follows {s : State} (c : AbortCause) (hw : s.seq.sweep.pastArming = true) :
    s.RosterFollows (s.abortStopped c) :=
  have hcall : ((s.closeSweep).setCause c).RosterFollows ((s.closeSweep).setCause c).ensureQuietCall :=
    ensureQuietCall_follows _
  (hcall.after rfl rfl).trans (.of_pastArming rfl (by rw [ensureQuietCall_sweep]; exact hw) rfl)

theorem stopPass_sweep (s : State) : s.stopPass.seq.sweep = s.seq.sweep := by
  unfold State.stopPass
  split <;> rfl

theorem abortReduce_follows {s : State} (c : AbortCause) (hw : s.seq.sweep.pastArming = true) :
    s.RosterFollows (s.abortReduce c) := by
  have hstop : s.RosterFollows (s.setCause c).stopPass :=
    .of_same (by simp) (stopPass_sweep _)
  have hsweep : (s.setCause c).stopPass.seq.sweep.pastArming = true := by rw [stopPass_sweep]; exact hw
  unfold State.abortReduce
  dsimp only
  split
  · exact hstop.trans (enterTerminal_follows rfl _)
  · exact hstop.trans (enterAborting_follows hsweep)
  · exact hstop.trans (enterAborting_follows hsweep)

theorem abortSweep_follows (c : AbortCause) (s : State) : s.RosterFollows (s.abortSweep c) := by
  unfold State.abortSweep
  split
  case h_1 => exact (enterTerminal_follows rfl (s.setCause c)).after rfl rfl
  case h_2 => exact (enterTerminal_follows rfl ((s.closeSweep).setCause c)).after rfl rfl
  case h_3 hw => exact abortRunning_follows c (by rw [hw]; exact rfl)
  case h_4 hw => exact abortRunning_follows c (by rw [hw]; exact rfl)
  case h_5 hw => exact abortStopped_follows c (by rw [hw]; exact rfl)
  case h_6 hw => exact abortStopped_follows c (by rw [hw]; exact rfl)
  case h_7 hw => exact abortReduce_follows c (by rw [hw]; exact rfl)
  all_goals exact .refl s

theorem allLost_follows (s : State) : s.RosterFollows s.allLost := by
  unfold State.allLost
  split
  · exact s.abortSweep_follows .allLost
  · exact .refl s

theorem activeFell_follows (s : State) : s.RosterFollows s.activeFell := by
  unfold State.activeFell
  split
  · exact s.allLost_follows
  · exact .refl s

theorem quietAnswered_follows (s : State) : s.RosterFollows s.quietAnswered := by
  have hcomplete : s.RosterFollows { s with seq := { s.seq with quietCall := .complete } } := .of_same rfl rfl
  unfold State.quietAnswered
  split
  · exact .refl s
  · dsimp only
    split
    · exact hcomplete.trans (enterTerminal_follows rfl _)
    · split
      · exact hcomplete.trans (enterTerminal_follows rfl _)
      · exact hcomplete
    · exact hcomplete

theorem finishPass_follows (s : State) : s.RosterFollows s.finishPass := by
  unfold State.finishPass
  dsimp only
  split
  · exact (State.RosterFollows.of_same rfl rfl).trans (enterTerminal_follows rfl _)
  · exact .of_same rfl rfl

theorem advance_follows (s : State) : s.RosterFollows s.advance := by
  unfold State.advance
  split
  · split <;> exact .of_same rfl rfl
  · split
    · exact .of_same rfl rfl
    · exact s.finishPass_follows
  · exact .refl s

theorem offer_follows (f : Finding) (s : State) : s.RosterFollows (s.offer f) := by
  unfold State.offer
  split
  · exact (advance_follows (s.pushFinding f)).after rfl rfl
  · exact .of_same rfl rfl

theorem pushPending_follows (f : Finding) (s : State) : s.RosterFollows (s.pushPending f) :=
  (advance_follows (State.pushFinding f { s with cursor := { s.cursor with pendingFinding := none } })).after rfl rfl

theorem stepLink_follows (i : Nat) (x : Link) (s : State) : s.RosterFollows (s.stepLink i x) := by
  unfold State.stepLink
  dsimp only
  split
  · exact (advance_follows (s.writeVerdict i (s.evaluate x))).after rfl rfl
  · exact (offer_follows _ (s.writeVerdict i (s.evaluate x))).after rfl rfl

theorem stepUnplanned_follows (rx : Nat) (s : State) : s.RosterFollows (s.stepUnplanned rx) := by
  unfold State.stepUnplanned
  dsimp only
  split
  · exact offer_follows _ s
  · exact s.advance_follows

theorem answerQuiet_follows (s : State) : s.RosterFollows s.answerQuiet :=
  .of_map rfl (SlotRecord.settleQuiet_follows _)

theorem leaveHalt_follows {s : State} (o : HaltOrigin) (hw : s.seq.sweep.pastArming = true) :
    s.RosterFollows (s.leaveHalt o) := by
  unfold State.leaveHalt
  split
  · exact enterTerminal_follows rfl s
  · split
    · exact enterTerminal_follows rfl s
    · exact .of_pastArming rfl hw rfl

theorem startSweep_follows {s : State} (hw : s.seq.sweep.atRest = true) : s.RosterFollows s.startSweep :=
  .of_map rfl fun _ => ⟨rfl, rfl, fun h => h.atStart hw⟩

-- ==== The marker ====

theorem armed_follows {s : State} (hw : s.seq.sweep = .arming) : s.RosterFollows s.armed := by
  unfold State.armed
  dsimp only
  split
  · exact .of_map rfl fun r => by rw [hw]; exact r.endArming_follows rfl
  · exact .of_map rfl fun r => by rw [hw]; exact r.endArming_follows rfl

theorem testArming_follows {s : State} (hw : s.seq.sweep = .arming) : s.RosterFollows s.testArming := by
  unfold State.testArming
  split
  · split
    · exact armed_follows hw
    · exact (enterTerminal_follows rfl (s.setCause .noneReady)).after rfl rfl
  · exact .refl s

theorem testSettle_follows {s : State} (hw : s.seq.sweep.pastArming = true) : s.RosterFollows s.testSettle := by
  unfold State.testSettle State.endSettle
  split
  · dsimp only
    split <;> exact .of_pastArming rfl hw rfl
  · exact .refl s

theorem endMeasure_follows {s : State} (hw : s.seq.sweep.pastArming = true) : s.RosterFollows s.endMeasure := by
  unfold State.endMeasure
  dsimp only
  split
  · exact .of_pastArming rfl hw rfl
  · exact .trans ((startQuietCall_follows _).after rfl rfl) (.of_pastArming rfl hw rfl)

theorem testMeasure_follows {s : State} (hw : s.seq.sweep.pastArming = true) : s.RosterFollows s.testMeasure := by
  unfold State.testMeasure
  split
  · exact endMeasure_follows hw
  · exact .refl s

theorem testReduce_slots (s : State) : s.testReduce.slots = s.slots := by
  obtain ⟨_, _, h⟩ := State.testReduce_frame s
  rw [h]

theorem testReduce_sweep (s : State) : s.testReduce.seq.sweep = s.seq.sweep := by
  unfold State.testReduce State.startEvaluation
  split
  · dsimp only
    split <;> rfl
  · rfl

theorem testDeadline_follows {s : State} (o : HaltOrigin) (hw : s.seq.sweep.pastArming = true) :
    s.RosterFollows (s.testDeadline o) := by
  unfold State.testDeadline
  split
  · exact .of_pastArming rfl hw rfl
  · exact .refl s

theorem phaseTest_follows (fell : Bool) (s : State) : s.RosterFollows (s.phaseTest fell) := by
  unfold State.phaseTest
  split
  case h_1 hw => exact testArming_follows hw
  case h_2 hw =>
    split
    · exact s.allLost_follows
    · exact testSettle_follows (by rw [hw]; exact rfl)
  case h_3 hw =>
    split
    · exact s.allLost_follows
    · exact testMeasure_follows (by rw [hw]; exact rfl)
  case h_4 hw =>
    have hreduce : s.RosterFollows s.testReduce := .of_same s.testReduce_slots s.testReduce_sweep
    exact hreduce.trans (testDeadline_follows .reduce (by rw [testReduce_sweep, hw]; exact rfl))
  case h_5 hw => exact testDeadline_follows .aborting (by rw [hw]; exact rfl)
  all_goals exact .refl s

theorem countMissedRuns_follows (s : State) : s.RosterFollows s.countMissedRuns :=
  .of_inside fun i hi => by
    unfold State.countMissedRuns
    rw [Table.get_mapIdx _ s.slots hi]
    exact SlotRecord.countMissed_follows _ _ _

theorem bookkeep_follows (s : State) : s.RosterFollows s.bookkeep := by
  unfold State.bookkeep
  split
  · split
    · exact s.countMissedRuns_follows
    · exact (countMissedRuns_follows s.countGaps).after rfl rfl
    · exact .refl s
    · exact .refl s
  · exact .refl s

theorem marker_follows (s : State) : s.RosterFollows s.marker :=
  have hpulse : s.RosterFollows s.pulse := .of_same rfl rfl
  have hwindows : s.pulse.bookkeep.RosterFollows s.pulse.bookkeep.emptyWindows := .of_same rfl rfl
  ((hpulse.trans (bookkeep_follows _)).trans hwindows).trans (phaseTest_follows _ _)

theorem expire_follows (s : State) : s.RosterFollows s.expire := by
  unfold State.expire
  split
  · exact .of_same rfl rfl
  · split
    · exact .of_same rfl rfl
    · exact s.marker_follows

end State

end Sys2Proof.Machine
end

section
/-!
The laws of the Slot Roster (R18, R19, R25): what a request can do to the roster, and that every step keeps each source id in
at most one record and every record sound.
-/

namespace Sys2Proof.Machine

-- ==== What a request can do to the roster ====

/-- The changes a request can make to the roster: records follow records; or one record is written anew, naming no source
that another slot holds; or the roster is emptied. -/
inductive RosterWork (s t : State) : Prop
  | follows (h : s.RosterFollows t)
  | written (slot : Nat) (r : SlotRecord)
      (hfree : ∀ a, r.holds a = true → (s.slots.get slot).holds a = true ∨ ∀ j, j ≠ slot → (s.slots.get j).holds a = false)
      (honce : ∀ a, r.source = some a → r.claimant ≠ some a)
      (hsound : (s.slots.get slot).Sound s.seq.sweep → r.Sound s.seq.sweep)
      (h : (s.setSlot slot r).RosterFollows t)
  | emptied (h : t.slots = Table.replicate _ {})

/-- A slot outside the roster reads as EMPTY. -/
theorem State.slot_outside (s : State) {i : Nat} (h : 24 ≤ i) : s.slots.get i = {} := Table.get_outside s.slots h

theorem State.lt_of_holds {s : State} {i : Nat} {a : SourceId} (h : (s.slots.get i).holds a = true) : i < 24 := by
  by_contra hi
  rw [s.slot_outside (Nat.le_of_not_lt hi)] at h
  exact absurd h (by simp [SlotRecord.holds])

/-- No slot but the one named holds the source (R20). -/
theorem not_holds_of_heldElsewhere {s : State} {src : SourceId} {slot : Nat} (h : s.heldElsewhere src slot = none)
    {j : Nat} (hj : j ≠ slot) : (s.slots.get j).holds src = false := by
  by_cases hlt : j < 24
  · exact heldElsewhere_none h hlt hj
  · rw [s.slot_outside (Nat.le_of_not_lt hlt)]
    rfl

/-- An EMPTY record names no source. -/
theorem RosterWork.emptiedSlot {s : State} (slot : Nat) : RosterWork s (s.setSlot slot {}) :=
  .written slot {} (fun a ha => absurd ha (by simp [SlotRecord.holds])) (fun a ha => absurd ha (by simp))
    (fun _ => .of_empty _) (.refl _)

/-- A source that no other slot holds takes an EMPTY slot (R21). -/
theorem RosterWork.enrolled {s : State} {src : SourceId} {slot lanes : Nat} (hp : isProbe src = true)
    (hl : 1 ≤ lanes ∧ lanes ≤ 32) (hh : s.heldElsewhere src slot = none) :
    RosterWork s (s.setSlot slot (enrolledRecord src lanes (s.seq.sweep == .arming))) := by
  refine .written slot _ (fun a ha => ?_) (fun a _ => by simp [enrolledRecord]) (fun _ => enrolledRecord_sound hp hl _)
    (.refl _)
  obtain rfl : src = a := by simpa [SlotRecord.holds, enrolledRecord] using ha
  exact .inr fun j hj => not_holds_of_heldElsewhere hh hj

/-- A source that no other slot holds claims a slot that is not EMPTY (R24). -/
theorem RosterWork.contested {s t : State} {src : SourceId} {slot : Nat} (hp : isProbe src = true)
    (ha : (s.slots.get slot).source ≠ some src) (hh : s.heldElsewhere src slot = none)
    (he : (s.slots.get slot).state ≠ .empty)
    (h : (s.setSlot slot ((s.slots.get slot).contested src)).RosterFollows t) : RosterWork s t := by
  refine .written slot _ (fun a hb => ?_) (fun a hsource hclaim => ?_) (fun hs => hs.contested he hp ha) h
  · have hb : (s.slots.get slot).source = some a ∨ src = a := by simpa [SlotRecord.holds, SlotRecord.contested] using hb
    rcases hb with hb | rfl
    · exact .inl (by simp [SlotRecord.holds, hb])
    · exact .inr fun j hj => not_holds_of_heldElsewhere hh hj
  · obtain rfl : src = a := Option.some.inj hclaim
    exact ha hsource

/-- A slot READY, ACTIVE or EXCLUDED is lost (R22). -/
theorem State.setLost_follows {s : State} {slot : Nat} (hr : (s.slots.get slot).state = .ready ∨
    (s.slots.get slot).state = .active ∨ (s.slots.get slot).state = .excluded) :
    s.RosterFollows (s.setSlot slot { s.slots.get slot with state := .lost }) :=
  .of_setSlot ⟨rfl, rfl, fun h => h.becomesLost hr h.missed h.fresh⟩

theorem State.setReady_follows {s : State} {src : SourceId} {slot : Nat} (ha : (s.slots.get slot).holds src = true)
    (hw : s.seq.sweep = .arming) (hc : (s.slots.get slot).state ≠ .conflict) :
    s.RosterFollows (s.setSlot slot { s.slots.get slot with state := .ready }) := by
  refine .of_setSlot ⟨rfl, rfl, fun h => ?_⟩
  have hne := h.ne_empty_of_holds ha
  rw [hw] at h ⊢
  exact h.becomesReady hne hc

theorem State.addPage_follows {s : State} {src : SourceId} {slot : Nat} (page : Nat)
    (ha : (s.slots.get slot).holds src = true) : s.RosterFollows (s.addPage slot page) :=
  .of_setSlot ⟨rfl, rfl, fun h => h.marked (h.ne_empty_of_holds ha) _ (s.slots.get slot).holdCharged
    (s.slots.get slot).quietOwed (s.slots.get slot).quietAcked⟩

theorem State.acknowledge_follows {s : State} {src : SourceId} {slot : Nat} (ha : (s.slots.get slot).source = some src) :
    s.RosterFollows (s.acknowledge slot) :=
  .of_setSlot ⟨rfl, rfl, fun h => h.marked (h.ne_empty_of_source ha) (s.slots.get slot).pages
    (s.slots.get slot).holdCharged (s.slots.get slot).quietOwed true⟩

theorem State.grantHold_follows {s : State} {slot : Nat} (granted : Nat) (hr : (s.slots.get slot).state = .active) :
    s.RosterFollows (s.grantHold slot granted) :=
  have hcharge : s.RosterFollows (s.setSlot slot
      { s.slots.get slot with holdCharged := (s.slots.get slot).holdCharged + granted }) :=
    .of_setSlot ⟨rfl, rfl, fun h => h.marked (by simp [hr]) (s.slots.get slot).pages _ (s.slots.get slot).quietOwed
      (s.slots.get slot).quietAcked⟩
  hcharge.trans (.of_same rfl rfl)

theorem State.resume_follows {s : State} {w : SweepState} (hs : s.seq.sweep.pastArming = true) (hw : w.pastArming = true) :
    s.RosterFollows (s.resume w) := .of_pastArming rfl hs hw

theorem BlockWork.rosterWork {src : SourceId} {s t : State} (h : BlockWork src s t) : RosterWork s t := by
  cases h with
  | enrol slot lanes hp _ hl hh _ => exact .enrolled hp hl hh
  | contest slot hp _ ha hh hr =>
    exact .contested hp ha hh (by rcases hr with hr | hr | hr | hr <;> simp [hr]) (.refl _)
  | contestActive slot hp _ ha hh hr => exact .contested hp ha hh (by simp [hr]) (State.activeFell_follows _)
  | leave slot => exact .emptiedSlot slot
  | release slot => exact .emptiedSlot slot
  | campaignReset => exact .emptied rfl
  | reenrol slot lanes _ hl ha hr =>
    exact .follows (.of_setSlot ⟨rfl, rfl, fun h => h.reenrolled (by simp [hr]) hl⟩)
  | restart slot _ _ hr => exact .follows (State.setLost_follows (hr.imp_right .inr))
  | restartActive slot _ _ hr =>
    exact .follows ((State.setLost_follows (.inr (.inl hr))).trans (State.activeFell_follows _))
  | addPage slot page ho => exact .follows (State.addPage_follows page (slotOf_lt ho).2)
  | ready slot ho hw hr => exact .follows (State.setReady_follows (slotOf_lt ho).2 hw hr.1)
  | hold slot granted hr => exact .follows (State.grantHold_follows granted hr)
  | quiet slot ho =>
    exact .follows ((State.acknowledge_follows (probeSlotOf_lt ho).2).trans (State.quietAnswered_follows _))
  | start hw => exact .follows (State.startSweep_follows hw)
  | abort => exact .follows (s.abortSweep_follows _)
  | continueSettle hw => exact .follows (State.resume_follows (by rw [hw]; rfl) rfl)
  | continueMeasure hw => exact .follows (State.resume_follows (by rw [hw]; rfl) rfl)
  | continueReduce hw =>
    have hresume : s.RosterFollows (s.resume .reduce) := State.resume_follows (by rw [hw]; rfl) rfl
    exact .follows (hresume.trans (s.resume .reduce).startQuietCall_follows)
  | clearHalt o hw =>
    exact .follows (s.answerQuiet_follows.trans (State.leaveHalt_follows o (by rw [State.answerQuiet_seq, hw]; rfl)))
  | releaseAndPush head rest f => exact .follows ((State.pushPending_follows f { s with findings := rest }).after rfl rfl)
  | report slot n g records => exact .follows (.of_same (by simp) (by simp))
  | _ => exact .follows (.of_same rfl rfl)

-- ==== Each source in at most one record (R25) ====

theorem State.RosterFollows.holds_eq {s t : State} (h : s.RosterFollows t) (i : Nat) (a : SourceId) :
    (t.slots.get i).holds a = (s.slots.get i).holds a := by
  simp [SlotRecord.holds, (h i).source, (h i).claimant]

theorem State.RosterFollows.sourcesOk {s t : State} (h : s.RosterFollows t) (hs : s.SourcesOk) : t.SourcesOk where
  one i j a hi hj := hs.one i j a (by rwa [← h.holds_eq]) (by rwa [← h.holds_eq])
  once i a ha := by
    rw [(h i).claimant]
    exact hs.once i a ((h i).source ▸ ha)

/-- A record that names no source of another slot, and none twice, keeps the law when it is written. -/
theorem State.SourcesOk.setSlot {s : State} (hs : s.SourcesOk) {slot : Nat} {r : SlotRecord}
    (hfree : ∀ a, r.holds a = true → (s.slots.get slot).holds a = true ∨ ∀ j, j ≠ slot → (s.slots.get j).holds a = false)
    (honce : ∀ a, r.source = some a → r.claimant ≠ some a) : (s.setSlot slot r).SourcesOk := by
  by_cases hlt : slot < 24
  · have hget : ∀ i, (s.setSlot slot r).slots.get i = if slot = i then r else s.slots.get i := fun i =>
      Table.get_set s.slots slot i r hlt
    have clash : ∀ j a, slot ≠ j → r.holds a = true → (s.slots.get j).holds a = true → False := by
      intro j a hj hr ha
      rcases hfree a hr with hslot | hnone
      · exact hj (hs.one slot j a hslot ha)
      · rw [hnone j (Ne.symm hj)] at ha
        exact absurd ha (by decide)
    refine ⟨fun i j a hi hj => ?_, fun i a ha => ?_⟩
    · rw [hget] at hi hj
      by_cases hi' : slot = i <;> by_cases hj' : slot = j
      · exact hi'.symm.trans hj'
      · rw [if_pos hi'] at hi
        rw [if_neg hj'] at hj
        exact (clash j a hj' hi hj).elim
      · rw [if_neg hi'] at hi
        rw [if_pos hj'] at hj
        exact (clash i a hi' hj hi).elim
      · rw [if_neg hi'] at hi
        rw [if_neg hj'] at hj
        exact hs.one i j a hi hj
    · rw [hget] at ha ⊢
      by_cases hi : slot = i
      · rw [if_pos hi] at ha ⊢
        exact honce a ha
      · rw [if_neg hi] at ha ⊢
        exact hs.once i a ha
  · have hsame : s.RosterFollows (s.setSlot slot r) :=
      .of_same (Table.set_outside s.slots (Nat.le_of_not_lt hlt) r) rfl
    exact hsame.sourcesOk hs

/-- An empty roster names no source. -/
theorem State.SourcesOk.of_empty {t : State} (h : t.slots = Table.replicate _ {}) : t.SourcesOk where
  one i j a hi := by
    rw [h, slots_empty] at hi
    exact absurd hi (by simp [SlotRecord.holds])
  once i a ha := by
    rw [h, slots_empty] at ha
    exact absurd ha (by simp)

theorem RosterWork.sourcesOk {s t : State} (h : RosterWork s t) (hs : s.SourcesOk) : t.SourcesOk := by
  cases h with
  | follows h => exact h.sourcesOk hs
  | written slot r hfree honce _ h => exact h.sourcesOk (hs.setSlot hfree honce)
  | emptied h => exact .of_empty h

-- ==== Every record is sound (R18, R19) ====

theorem State.RosterFollows.rosterOk {s t : State} (h : s.RosterFollows t) (hs : s.RosterOk) : t.RosterOk :=
  fun i => (h i).sound (hs i)

theorem State.RosterOk.setSlot {s : State} (hs : s.RosterOk) {slot : Nat} {r : SlotRecord}
    (hr : r.Sound s.seq.sweep) : (s.setSlot slot r).RosterOk := by
  intro i
  by_cases hi : slot = i
  · subst hi
    by_cases hlt : slot < 24
    · rwa [State.setSlot_slots, Table.get_set_same _ hlt]
    · rw [State.slot_outside _ (Nat.le_of_not_lt hlt)]
      exact .of_empty _
  · rw [State.setSlot_slots, Table.get_set_ne _ hi]
    exact hs i

theorem State.RosterOk.of_empty {t : State} (h : t.slots = Table.replicate _ {}) : t.RosterOk := by
  intro i
  rw [h, slots_empty]
  exact .of_empty _

theorem RosterWork.rosterOk {s t : State} (h : RosterWork s t) (hs : s.RosterOk) : t.RosterOk := by
  cases h with
  | follows h => exact h.rosterOk hs
  | written slot r _ _ hsound h => exact h.rosterOk (hs.setSlot (hsound (hs slot)))
  | emptied h => exact .of_empty h

-- ==== The two laws, over every step ====

theorem step_sourcesOk {s t : State} (h : step s = .next t) (hs : s.SourcesOk) : t.SourcesOk :=
  step_keeps (P := State.SourcesOk)
    (hp := fun _ _ _ _ hs => ⟨hs.one, hs.once⟩)
    (hreset := .of_empty rfl)
    (hwork := fun _ _ _ hw hs => hw.rosterWork.sourcesOk hs)
    (hexpire := fun s hs _ => s.expire_follows.sourcesOk hs)
    (hlink := fun s k x hs _ => (s.stepLink_follows k x).sourcesOk hs)
    (hun := fun s rx hs _ => (s.stepUnplanned_follows rx).sourcesOk hs)
    h hs

theorem step_rosterOk {s t : State} (h : step s = .next t) (hs : s.RosterOk) : t.RosterOk :=
  step_keeps (P := State.RosterOk)
    (hp := fun _ _ _ _ hs => hs)
    (hreset := .of_empty rfl)
    (hwork := fun _ _ _ hw hs => hw.rosterWork.rosterOk hs)
    (hexpire := fun s hs _ => s.expire_follows.rosterOk hs)
    (hlink := fun s k x hs _ => (s.stepLink_follows k x).rosterOk hs)
    (hun := fun s rx hs _ => (s.stepUnplanned_follows rx).rosterOk hs)
    h hs

/-- Settles O54: a step makes records follow records, or does one of the other changes of `RosterWork`; each keeps both
laws. -/
theorem rosterLawsStay : Obligations.RosterLawsStay :=
  fun _ _ h => ⟨step_sourcesOk h, step_rosterOk h⟩

end Sys2Proof.Machine
end

section
/-!
The requests of the Slot Roster: ENROL, LEAVE, RELEASE SLOT, FETCH DRIVES and READY, each refusal and each effect (R20–R31,
R47). First what they share: how a probe's request is answered, and which slot a source has.
-/

namespace Sys2Proof.Machine

-- ==== A probe's request is answered by its owning block ====

/-- A probe's request is answered by what its block makes of the state with quiet lines; the answer sets those lines
itself. -/
theorem State.FromProbe.deliver_eq {s t : State} {rq : Requester} (h : s.FromProbe rq) {n : Nat} (hn : n ≤ 128)
    {body : State → Answer} {r : Result} {p : List Byte}
    (hb : body s.quietLines = { state := t.quietLines, result := r, payload := p }) :
    s.deliver rq (some { cls := .probe, lengthOk := true, body := body }) n = t.answered rq r p := by
  obtain ⟨hlisten, hlow, hhigh⟩ := h
  have hpermits : RequesterClass.probe.permits rq.source = true := by
    simp [RequesterClass.permits, isProbe, hlow, hhigh]
  rw [State.deliver_taken hlisten hn hpermits rfl hb rfl]
  rfl

theorem State.FromProbe.exec_enrol {s t : State} {rq : Requester} (h : s.FromProbe rq) {slot lanes : Byte} {r : Result}
    {p : List Byte}
    (hb : enrolBody rq.source slot lanes s.quietLines = { state := t.quietLines, result := r, payload := p }) :
    exec (.enrol rq slot lanes) s = .next (t.answered rq r p) :=
  congrArg Host.Outcome.next (h.deliver_eq (by decide) hb)

theorem State.FromProbe.exec_leave {s t : State} {rq : Requester} (h : s.FromProbe rq) {r : Result} {p : List Byte}
    (hb : leaveBody rq.source s.quietLines = { state := t.quietLines, result := r, payload := p }) :
    exec (.leave rq) s = .next (t.answered rq r p) :=
  congrArg Host.Outcome.next (h.deliver_eq (by decide) hb)

theorem State.FromProbe.exec_fetchDrives {s t : State} {rq : Requester} (h : s.FromProbe rq) {page : Byte} {r : Result}
    {p : List Byte}
    (hb : fetchDrivesBody rq.source page s.quietLines = { state := t.quietLines, result := r, payload := p }) :
    exec (.fetchDrives rq page) s = .next (t.answered rq r p) :=
  congrArg Host.Outcome.next (h.deliver_eq (by decide) hb)

theorem State.FromProbe.exec_ready {s t : State} {rq : Requester} (h : s.FromProbe rq) {r : Result} {p : List Byte}
    (hb : readyBody rq.source s.quietLines = { state := t.quietLines, result := r, payload := p }) :
    exec (.ready rq) s = .next (t.answered rq r p) :=
  congrArg Host.Outcome.next (h.deliver_eq (by decide) hb)

theorem State.FromStation.exec_releaseSlot {s t : State} {rq : Requester} (h : s.FromStation rq) {slot : Byte} {r : Result}
    {p : List Byte} (hb : releaseSlotBody slot s.quietLines = { state := t.quietLines, result := r, payload := p }) :
    exec (.releaseSlot rq slot) s = .next (t.answered rq r p) :=
  congrArg Host.Outcome.next (h.deliver_eq (by decide) hb)

-- ==== The source's slot (R18, R20) ====

/-- The search of a table for a record that only one number has finds that number. -/
theorem first_eq_of_unique {α : Type} [Inhabited α] {n : Nat} {t : Table α n} {p : Nat → α → Bool} {i : Nat} (hi : i < n)
    (hp : p i (t.get i) = true) (hone : ∀ j, p j (t.get j) = true → j = i) : t.first p = some i := by
  cases hf : t.first p with
  | none =>
    rw [Table.first_eq_none.1 hf i hi] at hp
    exact absurd hp (by decide)
  | some j => exact congrArg some (hone j (Table.first_eq_some hf).2.1)

theorem State.slotOf_none {s : State} {src : SourceId} (h : ∀ j, (s.slots.get j).holds src = false) :
    s.slotOf src = none :=
  Table.first_eq_none.2 fun j _ => h j

/-- With each source in at most one record, the slot whose record holds it is the source's slot (R18). -/
theorem State.SourcesOk.slotOf_eq {s : State} (h : s.SourcesOk) {src : SourceId} {slot : Nat}
    (ha : (s.slots.get slot).holds src = true) : s.slotOf src = some slot :=
  first_eq_of_unique (State.lt_of_holds ha) ha fun j hj => h.one j slot src hj ha

theorem State.heldElsewhere_none {s : State} {src : SourceId} {slot : Nat}
    (h : ∀ j, j ≠ slot → (s.slots.get j).holds src = false) : s.heldElsewhere src slot = none :=
  Table.first_eq_none.2 fun j _ => by
    by_cases hj : j = slot
    · simp [hj]
    · simp [h j hj]

theorem State.SourcesOk.heldElsewhere_eq {s : State} (h : s.SourcesOk) {src : SourceId} {slot k : Nat} (hk : k ≠ slot)
    (ha : (s.slots.get k).holds src = true) : s.heldElsewhere src slot = some k :=
  first_eq_of_unique (State.lt_of_holds ha) (by simp [hk, ha]) fun j hj =>
    h.one j k src (Bool.and_eq_true_iff.1 hj).2 ha

-- ==== ENROL (R20–R23) ====

theorem enrolBody_outOfRange {src : SourceId} {slot lanes : Byte} {s : State}
    (h : 23 < slot.toNat ∨ lanes.toNat = 0 ∨ 32 < lanes.toNat) : enrolBody src slot lanes s = refuse .range s :=
  if_neg (by omega)

section InRange

variable {src : SourceId} {slot lanes : Byte} (hslot : slot.toNat ≤ 23) (hlow : 1 ≤ lanes.toNat) (hhigh : lanes.toNat ≤ 32)
  {s : State}
include hslot hlow hhigh

theorem enrolBody_heldElsewhere {k : Nat} (h : s.heldElsewhere src slot.toNat = some k) :
    enrolBody src slot lanes s = refuseWith .conflict [byte k] s := by
  simp [enrolBody, hslot, hlow, hhigh, h, be, byte]

theorem enrolBody_named (h : ∀ j, j ≠ slot.toNat → (s.slots.get j).holds src = false) :
    enrolBody src slot lanes s = enrolNamed src slot.toNat lanes.toNat (s.slots.get slot.toNat) s := by
  simp [enrolBody, hslot, hlow, hhigh, State.heldElsewhere_none h]

end InRange

theorem enrolNamed_empty {src : SourceId} {slot lanes : Nat} {r : SlotRecord} {s : State} (h : r.state = .empty) :
    enrolNamed src slot lanes r s = accept [] (s.setSlot slot (enrolledRecord src lanes (s.seq.sweep == .arming))) :=
  if_pos h

theorem enrolNamed_own {src : SourceId} {slot lanes : Nat} {r : SlotRecord} {s : State} (h : r.state ≠ .empty)
    (ha : r.source = some src) : enrolNamed src slot lanes r s = enrolOwn slot lanes r s :=
  (if_neg h).trans (if_pos ha)

/-- Whoever of its two sources names a CONFLICT slot is refused (R22, R24). -/
theorem enrolNamed_conflict {src : SourceId} {slot lanes : Nat} {r : SlotRecord} {s : State} (h : r.state = .conflict) :
    enrolNamed src slot lanes r s = refuse .conflict s := by
  by_cases ha : r.source = some src <;> simp [enrolNamed, enrolOwn, enrolOther, h, ha]

-- ==== ENROL from the slot's own source (R22, R23, R72) ====

section Own

variable {slot lanes : Nat} {r : SlotRecord} {s : State}

theorem enrolOwn_enrolled (h : r.state = .enrolled) :
    enrolOwn slot lanes r s = accept [] (s.setSlot slot { r with lanes := some lanes, pages := 0 }) := by
  simp [enrolOwn, h]

theorem enrolOwn_waiting (h : r.state = .ready ∨ r.state = .excluded) :
    enrolOwn slot lanes r s = { state := s.setSlot slot { r with state := .lost }, result := .restarted } := by
  rcases h with h | h <;> simp [enrolOwn, h]

theorem enrolOwn_active (h : r.state = .active) :
    enrolOwn slot lanes r s =
      { state := (s.setSlot slot { r with state := .lost }).activeFell, result := .restarted } := by
  simp [enrolOwn, h]

theorem enrolOwn_lost (h : r.state = .lost) : enrolOwn slot lanes r s = refuse .lost s := by
  simp [enrolOwn, h]

end Own

theorem State.ensureQuietCall_quietLines (s : State) : s.quietLines.ensureQuietCall = s.ensureQuietCall.quietLines := by
  unfold State.ensureQuietCall
  rw [State.quietLines_seq]
  split <;> rfl

theorem State.stopPass_quietLines (s : State) : s.quietLines.stopPass = s.stopPass.quietLines := by
  unfold State.stopPass
  rw [State.quietLines_cursor]
  split <;> rfl

theorem State.abortStopped_quietLines (c : AbortCause) (s : State) :
    s.quietLines.abortStopped c = (s.abortStopped c).quietLines := by
  show State.enterAborting (State.restartTimer ((s.closeSweep).setCause c).quietLines.ensureQuietCall) = _
  rw [State.ensureQuietCall_quietLines]
  rfl

theorem State.abortReduce_quietLines (c : AbortCause) (s : State) :
    s.quietLines.abortReduce c = (s.abortReduce c).quietLines := by
  have hstop : (s.quietLines.setCause c).stopPass = (s.setCause c).stopPass.quietLines :=
    State.stopPass_quietLines (s.setCause c)
  unfold State.abortReduce
  rw [hstop]
  dsimp only
  rw [State.quietLines_seq]
  split <;> rfl

/-- What an abort does depends on none of the lines. -/
theorem State.abortSweep_quietLines (c : AbortCause) (s : State) :
    s.quietLines.abortSweep c = (s.abortSweep c).quietLines := by
  unfold State.abortSweep
  rw [State.quietLines_seq]
  split
  case h_5 => exact s.abortStopped_quietLines c
  case h_6 => exact s.abortStopped_quietLines c
  case h_7 => exact s.abortReduce_quietLines c
  all_goals rfl

/-- The fall of the ACTIVE count aborts nothing while a slot is ACTIVE, or in a state of which R72 says so. -/
theorem State.activeFell_eq_self {s : State} (h : s.activeCount ≠ 0 ∨ s.seq.sweep.abortsWhenLost = false) :
    s.activeFell = s := by
  rcases h with h | h <;> simp [State.activeFell, State.allLost, h]

theorem State.activeFell_eq_abort {s : State} (h : s.activeCount = 0) (hw : s.seq.sweep.abortsWhenLost = true) :
    s.activeFell = s.abortSweep .allLost := by
  simp [State.activeFell, State.allLost, h, hw]

/-- Settles O23: the range check, then the search for another slot with the source, which R25 makes the only one, then the
state of the slot named. -/
theorem enrolTakesAnEmptySlot : Obligations.EnrolTakesAnEmptySlot := by
  intro s rq slot lanes hrq
  refine ⟨fun h => ?_, fun k hs hslot hlow hhigh hk ha => ?_, fun hslot hlow hhigh hfree he => ?_⟩
  · exact hrq.exec_enrol (enrolBody_outOfRange h)
  · exact hrq.exec_enrol (enrolBody_heldElsewhere hslot hlow hhigh (s := s.quietLines) (hs.heldElsewhere_eq hk ha))
  · exact hrq.exec_enrol ((enrolBody_named hslot hlow hhigh (s := s.quietLines) hfree).trans (enrolNamed_empty he))

/-- Settles O24: with no other slot holding the source the slot's own state decides, and the fall of the ACTIVE count aborts
only where R72 says so. -/
theorem enrolFromTheOwnSource : Obligations.EnrolFromTheOwnSource := by
  intro s rq slot lanes r lost hrq hslot hlow hhigh hfree hget hlost
  have hnamed : enrolBody rq.source slot lanes s.quietLines =
      enrolNamed rq.source slot.toNat lanes.toNat r s.quietLines := by
    rw [enrolBody_named hslot hlow hhigh (s := s.quietLines) hfree, State.quietLines_slots, hget]
  have own : r.source = some rq.source → r.state ≠ .empty →
      enrolBody rq.source slot lanes s.quietLines = enrolOwn slot.toNat lanes.toNat r s.quietLines :=
    fun ha he => hnamed.trans (enrolNamed_own he ha)
  have active : r.source = some rq.source → r.state = .active → enrolBody rq.source slot lanes s.quietLines =
      { state := lost.quietLines.activeFell, result := .restarted } := by
    intro ha hr
    rw [own ha (by simp [hr]), enrolOwn_active hr, hlost]
    rfl
  refine ⟨fun ha hr => ?_, fun ha hr => ?_, fun ha hr hstay => ?_, fun ha hr hnone habort => ?_, fun ha hr => ?_,
    fun _ hr => ?_⟩
  · exact hrq.exec_enrol ((own ha (by simp [hr])).trans (enrolOwn_enrolled hr))
  · rw [hlost]
    exact hrq.exec_enrol ((own ha (by rcases hr with hr | hr <;> simp [hr])).trans (enrolOwn_waiting hr))
  · have hbody := active ha hr
    rw [State.activeFell_eq_self (s := lost.quietLines) hstay] at hbody
    exact hrq.exec_enrol hbody
  · have hbody := active ha hr
    rw [State.activeFell_eq_abort (s := lost.quietLines) hnone habort, State.abortSweep_quietLines] at hbody
    exact hrq.exec_enrol hbody
  · exact hrq.exec_enrol ((own ha (by simp [hr])).trans (enrolOwn_lost hr))
  · exact hrq.exec_enrol (hnamed.trans (enrolNamed_conflict hr))

-- ==== LEAVE and RELEASE SLOT (R26, R27) ====

theorem leaveBody_noSlot {src : SourceId} {s : State} (h : s.slotOf src = none) :
    leaveBody src s = refuse .notEnrolled s := by
  simp [leaveBody, h]

theorem leaveBody_slot {src : SourceId} {s : State} {slot : Nat} (h : s.slotOf src = some slot) :
    leaveBody src s = leaveSlot slot s := by
  simp [leaveBody, h]

theorem leaveSlot_conflict {s : State} {slot : Nat} (h : (s.slots.get slot).state = .conflict) :
    leaveSlot slot s = refuse .conflict s := by
  simp [leaveSlot, h]

theorem leaveSlot_busy {s : State} {slot : Nat} (h : (s.slots.get slot).state = .ready ∨
    (s.slots.get slot).state = .active ∨ (s.slots.get slot).state = .excluded ∨ (s.slots.get slot).state = .lost) :
    leaveSlot slot s = refuse .busy s := by
  rcases h with h | h | h | h <;> simp [leaveSlot, h]

theorem leaveSlot_enrolled {s : State} {slot : Nat} (h : (s.slots.get slot).state = .enrolled) :
    leaveSlot slot s = accept [] (s.setSlot slot {}) := by
  simp [leaveSlot, h]

theorem releaseSlotBody_outOfRange {slot : Byte} {s : State} (h : 23 < slot.toNat) :
    releaseSlotBody slot s = refuse .range s :=
  if_neg (Nat.not_le.2 h)

theorem releaseSlotBody_empty {slot : Byte} {s : State} (hi : slot.toNat ≤ 23)
    (h : (s.slots.get slot.toNat).state = .empty) : releaseSlotBody slot s = refuse .empty s := by
  simp [releaseSlotBody, hi, h]

/-- What holds a slot in a sweep: it participates, or it was lost by conflict (R27). -/
theorem SlotRecord.heldBySweep_iff {r : SlotRecord} :
    r.heldBySweep = true ↔ r.participating = true ∨ (r.state = .conflict ∧ r.lostByConflict = true) := by
  simp [SlotRecord.heldBySweep]

theorem releaseSlotBody_held {slot : Byte} {s : State} (hi : slot.toNat ≤ 23)
    (he : (s.slots.get slot.toNat).state ≠ .empty) (hw : ¬ s.Open) (h : (s.slots.get slot.toNat).heldBySweep = true) :
    releaseSlotBody slot s = refuse .busy s := by
  simp [releaseSlotBody, hi, he, State.not_open_iff_atRest.1 hw, h]

theorem releaseSlotBody_free {slot : Byte} {s : State} (hi : slot.toNat ≤ 23)
    (he : (s.slots.get slot.toNat).state ≠ .empty) (h : s.Open ∨ (s.slots.get slot.toNat).heldBySweep = false) :
    releaseSlotBody slot s = accept [] (s.setSlot slot.toNat {}) := by
  rw [State.open_iff_atRest] at h
  rcases h with h | h <;> simp [releaseSlotBody, hi, he, h]

/-- Settles O26, clause by clause: LEAVE by the state of the source's slot, RELEASE SLOT by its checks in their order. -/
theorem leaveAndRelease : Obligations.LeaveAndRelease := by
  intro s rq
  refine ⟨fun hrq hfree => ?_, fun slot hrq hs ha => ?_, fun i hrq hi => ?_, ?_⟩
  · exact hrq.exec_leave (leaveBody_noSlot (s := s.quietLines) (State.slotOf_none hfree))
  · have hbody := leaveBody_slot (s := s.quietLines) (hs.slotOf_eq ha)
    exact ⟨fun hr => hrq.exec_leave (hbody.trans (leaveSlot_conflict hr)),
      fun hr => hrq.exec_leave (hbody.trans (leaveSlot_busy hr)),
      fun hr => hrq.exec_leave (hbody.trans (leaveSlot_enrolled hr))⟩
  · exact hrq.exec_releaseSlot (releaseSlotBody_outOfRange hi)
  · rintro i r hrq hi rfl
    refine ⟨fun he => ?_, fun he hw hheld => ?_, fun he hfree => ?_⟩
    · exact hrq.exec_releaseSlot (releaseSlotBody_empty (s := s.quietLines) hi he)
    · exact hrq.exec_releaseSlot
        (releaseSlotBody_held (s := s.quietLines) hi he hw (SlotRecord.heldBySweep_iff.2 hheld))
    · refine hrq.exec_releaseSlot (releaseSlotBody_free (s := s.quietLines) hi he (hfree.imp_right ?_))
      rintro ⟨hpart, hlost⟩
      simpa [SlotRecord.heldBySweep, hpart] using hlost

-- ==== FETCH DRIVES (R30, R47) ====

theorem fetchDrivesBody_noSlot {src : SourceId} {page : Byte} {s : State} (h : s.slotOf src = none) :
    fetchDrivesBody src page s = refuse .notEnrolled s := by
  simp [fetchDrivesBody, h]

theorem fetchDrivesBody_slot {src : SourceId} {page : Byte} {s : State} {slot : Nat} (h : s.slotOf src = some slot) :
    fetchDrivesBody src page s = fetchSlot slot page.toNat s := by
  simp [fetchDrivesBody, h]

section Fetch

variable {s : State} {slot page : Nat}

theorem fetchSlot_conflict (h : (s.slots.get slot).state = .conflict) : fetchSlot slot page s = refuse .conflict s :=
  if_pos h

theorem fetchSlot_lost (h : (s.slots.get slot).state = .lost) : fetchSlot slot page s = refuse .lost s := by
  simp [fetchSlot, h]

variable (hc : (s.slots.get slot).state ≠ .conflict) (hl : (s.slots.get slot).state ≠ .lost)
include hc hl

theorem fetchSlot_notArming (hw : s.seq.sweep ≠ .arming) : fetchSlot slot page s = refuse .notNow s := by
  simp [fetchSlot, hc, hl, hw]

theorem fetchSlot_noPage (hw : s.seq.sweep = .arming) (hp : s.pageCount slot ≤ page) :
    fetchSlot slot page s = refuse .range s := by
  simp [fetchSlot, hc, hl, hw, Nat.not_lt.2 hp]

theorem fetchSlot_served (hw : s.seq.sweep = .arming) (hp : page < s.pageCount slot) :
    fetchSlot slot page s = accept (s.drivePage slot page) (s.addPage slot page) := by
  simp [fetchSlot, hc, hl, hw, hp]

end Fetch

/-- Pages fetched with one index added, as a number with one bit. -/
theorem State.addPage_eq (s : State) (slot page : Nat) :
    s.addPage slot page = { s with
      slots := s.slots.set slot
        { s.slots.get slot with pages := (s.slots.get slot).pages ||| BitVec.ofNat 2 (2 ^ page) } } := by
  have hbit : BitVec.twoPow 2 page = BitVec.ofNat 2 (2 ^ page) := by
    apply BitVec.eq_of_toNat_eq
    rw [BitVec.toNat_twoPow, BitVec.toNat_ofNat]
  rw [← hbit]
  rfl

/-- Settles O27: the checks fail in the order of the definition, and a page served is one bit of pages fetched. -/
theorem fetchDrivesServesAPage : Obligations.FetchDrivesServesAPage := by
  intro s rq page hrq
  refine ⟨fun hfree => ?_, ?_⟩
  · exact hrq.exec_fetchDrives (fetchDrivesBody_noSlot (s := s.quietLines) (State.slotOf_none hfree))
  · rintro slot count r hs rfl ha rfl
    have hbody := fetchDrivesBody_slot (page := page) (s := s.quietLines) (hs.slotOf_eq ha)
    refine ⟨fun hr => ?_, fun hr => ?_, fun hc hl hw => ?_, fun hc hl hw hp => ?_, fun hc hl hw hp => ?_⟩
    · exact hrq.exec_fetchDrives (hbody.trans (fetchSlot_conflict hr))
    · exact hrq.exec_fetchDrives (hbody.trans (fetchSlot_lost hr))
    · exact hrq.exec_fetchDrives (hbody.trans (fetchSlot_notArming hc hl hw))
    · exact hrq.exec_fetchDrives (hbody.trans (fetchSlot_noPage hc hl hw hp))
    · rw [← s.addPage_eq slot page.toNat]
      exact hrq.exec_fetchDrives (hbody.trans (fetchSlot_served hc hl hw hp))

-- ==== READY (R31) ====

theorem readyBody_noSlot {src : SourceId} {s : State} (h : s.slotOf src = none) :
    readyBody src s = refuse .notEnrolled s := by
  simp [readyBody, h]

theorem readyBody_slot {src : SourceId} {s : State} {slot : Nat} (h : s.slotOf src = some slot) :
    readyBody src s = readySlot slot s := by
  simp [readyBody, h]

/-- All pages are fetched when every index below the page count is marked (R30). -/
theorem State.allPages_iff {s : State} {slot : Nat} :
    s.allPages slot = true ↔ ∀ i, i < s.pageCount slot → (s.slots.get slot).pages.getLsbD i = true := by
  simp [State.allPages]

theorem State.allPages_eq_false {s : State} {slot i : Nat} (hi : i < s.pageCount slot)
    (h : (s.slots.get slot).pages.getLsbD i = false) : s.allPages slot = false := by
  rw [← Bool.not_eq_true, State.allPages_iff]
  intro hall
  rw [hall i hi] at h
  exact absurd h (by decide)

section Ready

variable {s : State} {slot : Nat}

theorem readySlot_conflict (h : (s.slots.get slot).state = .conflict) : readySlot slot s = refuse .conflict s :=
  if_pos h

theorem readySlot_lost (h : (s.slots.get slot).state = .lost) : readySlot slot s = refuse .lost s := by
  simp [readySlot, h]

theorem readySlot_again (h : (s.slots.get slot).state = .ready) (hw : s.seq.sweep = .arming) :
    readySlot slot s = accept [] s := by
  simp [readySlot, h, hw]

variable (hc : (s.slots.get slot).state ≠ .conflict) (hl : (s.slots.get slot).state ≠ .lost)
include hc hl

theorem readySlot_notArming (hw : s.seq.sweep ≠ .arming) : readySlot slot s = refuse .notNow s := by
  simp [readySlot, hc, hl, hw]

theorem readySlot_incomplete (hr : (s.slots.get slot).state ≠ .ready) (hw : s.seq.sweep = .arming)
    (hp : s.allPages slot = false) : readySlot slot s = refuse .incomplete s := by
  simp [readySlot, hc, hl, hr, hw, hp]

theorem readySlot_taken (hr : (s.slots.get slot).state ≠ .ready) (hw : s.seq.sweep = .arming)
    (hp : s.allPages slot = true) :
    readySlot slot s = accept [] (s.setSlot slot { s.slots.get slot with state := .ready }) := by
  simp [readySlot, hc, hl, hr, hw, hp]

end Ready

/-- Settles O28: the checks fail in the order of the definition, the last of them over the pages fetched. -/
theorem readyByItsOrder : Obligations.ReadyByItsOrder := by
  intro s rq hrq
  refine ⟨fun hfree => ?_, ?_⟩
  · exact hrq.exec_ready (readyBody_noSlot (s := s.quietLines) (State.slotOf_none hfree))
  · rintro slot count r hs rfl ha rfl
    have hbody := readyBody_slot (s := s.quietLines) (hs.slotOf_eq ha)
    refine ⟨fun hr => ?_, fun hr => ?_, fun hc hl hw => ?_, fun hr hw => ?_, fun hc hl hr hw ⟨i, hi, hp⟩ => ?_,
      fun hc hl hr hw hp => ?_⟩
    · exact hrq.exec_ready (hbody.trans (readySlot_conflict hr))
    · exact hrq.exec_ready (hbody.trans (readySlot_lost hr))
    · exact hrq.exec_ready (hbody.trans (readySlot_notArming hc hl hw))
    · exact hrq.exec_ready (hbody.trans (readySlot_again hr hw))
    · have hmissing : s.quietLines.allPages slot = false := State.allPages_eq_false hi hp
      exact hrq.exec_ready (hbody.trans (readySlot_incomplete hc hl hr hw hmissing))
    · have hall : s.quietLines.allPages slot = true := State.allPages_iff.2 hp
      exact hrq.exec_ready (hbody.trans (readySlot_taken hc hl hr hw hall))

end Sys2Proof.Machine
end

section
/-!
The generation and the holds (R42, R81, R83): the relation that a step has to the sweep state, to hold remaining and to the
slots' charges when it starts no sweep and grants no hold, the shared operations that stand in it, and the two laws over every
step.
-/

namespace Sys2Proof.Machine

-- ==== States that hold no more than states before them ====

/-- A state `t` follows a state `s` within its limits: the sweep state is the same unless it moved on from one that is not at
rest, and neither hold remaining nor any slot's charge has risen. -/
structure State.LimitsFollow (s t : State) : Prop where
  sweep  : t.seq.sweep = s.seq.sweep ∨ s.seq.sweep.atRest = false
  hold   : t.seq.hold ≤ s.seq.hold
  charge : ∀ i, (t.slots.get i).holdCharged ≤ (s.slots.get i).holdCharged

/-- A change of every record that keeps its charge keeps the charges of the roster. -/
theorem holdCharged_get_map {f : SlotRecord → SlotRecord} (hf : ∀ r, (f r).holdCharged = r.holdCharged)
    (slots : Table SlotRecord Config.slots) (i : Nat) :
    ((slots.map f).get i).holdCharged = (slots.get i).holdCharged := by
  by_cases hi : i < 24
  · rw [Table.get_map f slots hi, hf]
  · rw [Table.get_outside _ (Nat.le_of_not_lt hi), Table.get_outside _ (Nat.le_of_not_lt hi)]

namespace State.LimitsFollow

variable {s t u : State}

theorem of_same (hw : t.seq.sweep = s.seq.sweep) (hh : t.seq.hold = s.seq.hold) (hr : t.slots = s.slots) :
    s.LimitsFollow t := ⟨.inl hw, hh.le, fun i => by rw [hr]⟩

theorem refl (s : State) : s.LimitsFollow s := of_same rfl rfl rfl

theorem trans (h : s.LimitsFollow t) (h' : t.LimitsFollow u) : s.LimitsFollow u where
  sweep := by
    rcases h.sweep with hw | hw
    · rw [← hw]; exact h'.sweep
    · exact .inr hw
  hold := h'.hold.trans h.hold
  charge i := (h'.charge i).trans (h.charge i)

/-- What follows a state follows every state with the same roster, sweep state and hold remaining. -/
theorem after (h : t.LimitsFollow u) (hw : t.seq.sweep = s.seq.sweep) (hh : t.seq.hold = s.seq.hold)
    (hr : t.slots = s.slots) : s.LimitsFollow u := (of_same hw hh hr).trans h

/-- The sweep moves on, and the roster stays. -/
theorem of_moved (hw : s.seq.sweep.atRest = false) (hh : t.seq.hold ≤ s.seq.hold) (hr : t.slots = s.slots) :
    s.LimitsFollow t := ⟨.inr hw, hh, fun i => by rw [hr]⟩

/-- The sweep moves on, and every record is changed in a way that keeps its charge. -/
theorem of_moved_map (hw : s.seq.sweep.atRest = false) (hh : t.seq.hold ≤ s.seq.hold) {f : SlotRecord → SlotRecord}
    (hf : ∀ r, (f r).holdCharged = r.holdCharged) (hr : t.slots = s.slots.map f) : s.LimitsFollow t :=
  ⟨.inr hw, hh, fun i => by rw [hr, holdCharged_get_map hf]⟩

/-- The sweep stays, and every record is changed in a way that keeps its charge. -/
theorem of_map (hw : t.seq.sweep = s.seq.sweep) (hh : t.seq.hold = s.seq.hold) {f : SlotRecord → SlotRecord}
    (hf : ∀ r, (f r).holdCharged = r.holdCharged) (hr : t.slots = s.slots.map f) : s.LimitsFollow t :=
  ⟨.inl hw, hh.le, fun i => by rw [hr, holdCharged_get_map hf]⟩

/-- One record replaced by one with no greater charge. -/
theorem of_setSlot {slot : Nat} {r : SlotRecord} (h : r.holdCharged ≤ (s.slots.get slot).holdCharged) :
    s.LimitsFollow (s.setSlot slot r) where
  sweep := .inl rfl
  hold := le_rfl
  charge i := by
    rw [State.setSlot_slots]
    by_cases hslot : slot < 24
    · rw [Table.get_set _ _ _ _ hslot]
      split
      · next hi => rwa [← hi]
      · exact le_rfl
    · rw [Table.set_outside _ (Nat.le_of_not_lt hslot)]

theorem after_setSlot {slot : Nat} {r : SlotRecord} (h : (s.setSlot slot r).LimitsFollow t)
    (hr : r.holdCharged ≤ (s.slots.get slot).holdCharged) : s.LimitsFollow t := (of_setSlot hr).trans h

end State.LimitsFollow

-- ==== What happens to a record keeps its charge ====

namespace SlotRecord

theorem callQuiet_holdCharged (r : SlotRecord) : r.callQuiet.holdCharged = r.holdCharged := by
  unfold callQuiet
  split <;> rfl

theorem settleQuiet_holdCharged (r : SlotRecord) : r.settleQuiet.holdCharged = r.holdCharged := by
  unfold settleQuiet
  split <;> rfl

theorem sweepEnd_holdCharged (r : SlotRecord) : r.sweepEnd.holdCharged = r.holdCharged := by
  unfold sweepEnd
  split <;> rfl

theorem countMissed_holdCharged (w : ReportWindow) (r : SlotRecord) :
    (r.countMissed w).holdCharged = r.holdCharged := by
  unfold countMissed
  split_ifs <;> rfl

theorem endArming_holdCharged (r : SlotRecord) : r.endArming.holdCharged = r.holdCharged := by
  unfold endArming
  split
  case h_2 => split <;> rfl
  all_goals rfl

end SlotRecord

-- ==== The shared operations stay within the limits ====

namespace State

variable {s : State}

theorem enterTerminal_limits (w : SweepState) (hw : s.seq.sweep.atRest = false) : s.LimitsFollow (s.enterTerminal w) :=
  .of_moved_map hw (Nat.zero_le _) SlotRecord.sweepEnd_holdCharged rfl

theorem startQuietCall_limits (s : State) : s.LimitsFollow s.startQuietCall :=
  .of_map rfl rfl SlotRecord.callQuiet_holdCharged rfl

theorem ensureQuietCall_limits (s : State) : s.LimitsFollow s.ensureQuietCall := by
  unfold State.ensureQuietCall
  split
  · exact s.startQuietCall_limits
  · exact .refl s
  · exact .refl s

theorem stopPass_limits (s : State) : s.LimitsFollow s.stopPass := by
  unfold State.stopPass
  split <;> exact .of_same rfl rfl rfl

theorem abortRunning_limits (c : AbortCause) (hw : s.seq.sweep.atRest = false) : s.LimitsFollow (s.abortRunning c) :=
  .of_moved_map hw (Nat.zero_le _) SlotRecord.callQuiet_holdCharged rfl

theorem abortBeforeSettle_limits (c : AbortCause) (hw : s.seq.sweep.atRest = false) :
    s.LimitsFollow (s.abortBeforeSettle c) :=
  (enterTerminal_limits (s := (s.closeSweep).setCause c) .aborted hw).after rfl rfl rfl

theorem abortStopped_limits (c : AbortCause) (hw : s.seq.sweep.atRest = false) : s.LimitsFollow (s.abortStopped c) :=
  have hcall : s.LimitsFollow ((s.closeSweep).setCause c).ensureQuietCall := (ensureQuietCall_limits _).after rfl rfl rfl
  hcall.trans (.of_moved (by rw [ensureQuietCall_sweep]; exact hw) (Nat.zero_le _) rfl)

theorem abortReduce_limits (c : AbortCause) (hw : s.seq.sweep.atRest = false) : s.LimitsFollow (s.abortReduce c) := by
  have hstop : s.LimitsFollow (s.setCause c).stopPass := (stopPass_limits _).after rfl rfl rfl
  have hstopped : (s.setCause c).stopPass.seq.sweep.atRest = false := by rw [stopPass_sweep]; exact hw
  unfold State.abortReduce
  dsimp only
  split
  · exact hstop.trans (enterTerminal_limits .aborted hstopped)
  · exact hstop.trans (.of_moved hstopped (Nat.zero_le _) rfl)
  · exact hstop.trans (.of_moved hstopped (Nat.zero_le _) rfl)

theorem abortSweep_limits (c : AbortCause) (s : State) : s.LimitsFollow (s.abortSweep c) := by
  unfold State.abortSweep
  split
  case h_1 hw =>
    exact (enterTerminal_limits (s := s.setCause c) .aborted (by simp [hw, SweepState.atRest])).after rfl rfl rfl
  case h_2 hw => exact abortBeforeSettle_limits c (by rw [hw]; rfl)
  case h_3 hw => exact abortRunning_limits c (by rw [hw]; rfl)
  case h_4 hw => exact abortRunning_limits c (by rw [hw]; rfl)
  case h_5 hw => exact abortStopped_limits c (by rw [hw]; rfl)
  case h_6 hw => exact abortStopped_limits c (by rw [hw]; rfl)
  case h_7 hw => exact abortReduce_limits c (by rw [hw]; rfl)
  all_goals exact .refl s

theorem allLost_limits (s : State) : s.LimitsFollow s.allLost := by
  unfold State.allLost
  split
  · exact s.abortSweep_limits .allLost
  · exact .refl s

theorem activeFell_limits (s : State) : s.LimitsFollow s.activeFell := by
  unfold State.activeFell
  split
  · exact s.allLost_limits
  · exact .refl s

theorem quietAnswered_limits (s : State) : s.LimitsFollow s.quietAnswered := by
  have hcomplete : s.LimitsFollow { s with seq := { s.seq with quietCall := .complete } } := .of_same rfl rfl rfl
  unfold State.quietAnswered
  split
  · exact .refl s
  · dsimp only
    split
    · next hw => exact hcomplete.trans (enterTerminal_limits .aborted (by rw [hw]; rfl))
    · next hw =>
      split
      · exact hcomplete.trans (enterTerminal_limits .done (by rw [hw]; rfl))
      · exact hcomplete
    · exact hcomplete

theorem finishPass_limits (s : State) : s.LimitsFollow s.finishPass := by
  unfold State.finishPass
  dsimp only
  split
  · next hw => exact (enterTerminal_limits .done (by rw [hw.1]; rfl)).after rfl rfl rfl
  · exact .of_same rfl rfl rfl

theorem advance_limits (s : State) : s.LimitsFollow s.advance := by
  unfold State.advance
  split
  · split <;> exact .of_same rfl rfl rfl
  · split
    · exact .of_same rfl rfl rfl
    · exact s.finishPass_limits
  · exact .refl s

theorem offer_limits (f : Finding) (s : State) : s.LimitsFollow (s.offer f) := by
  unfold State.offer
  split
  · exact (advance_limits (s.pushFinding f)).after rfl rfl rfl
  · exact .of_same rfl rfl rfl

theorem pushPending_limits (f : Finding) (s : State) : s.LimitsFollow (s.pushPending f) :=
  (advance_limits (State.pushFinding f { s with cursor := { s.cursor with pendingFinding := none } })).after rfl rfl rfl

theorem stepLink_limits (i : Nat) (x : Link) (s : State) : s.LimitsFollow (s.stepLink i x) := by
  unfold State.stepLink
  dsimp only
  split
  · exact (advance_limits (s.writeVerdict i (s.evaluate x))).after rfl rfl rfl
  · exact (offer_limits _ (s.writeVerdict i (s.evaluate x))).after rfl rfl rfl

theorem stepUnplanned_limits (rx : Nat) (s : State) : s.LimitsFollow (s.stepUnplanned rx) := by
  unfold State.stepUnplanned
  dsimp only
  split
  · exact offer_limits _ s
  · exact s.advance_limits

theorem answerQuiet_limits (s : State) : s.LimitsFollow s.answerQuiet :=
  .of_map rfl rfl SlotRecord.settleQuiet_holdCharged rfl

theorem leaveHalt_limits (o : HaltOrigin) (hw : s.seq.sweep.atRest = false) : s.LimitsFollow (s.leaveHalt o) := by
  unfold State.leaveHalt
  split
  · exact enterTerminal_limits .aborted hw
  · split
    · exact enterTerminal_limits .done hw
    · exact .of_moved hw le_rfl rfl

-- ==== The marker stays within the limits ====

theorem armed_limits (hw : s.seq.sweep.atRest = false) : s.LimitsFollow s.armed := by
  unfold State.armed
  dsimp only
  split
  · exact .of_moved_map hw (Nat.zero_le _) SlotRecord.endArming_holdCharged rfl
  · exact .of_moved_map hw le_rfl SlotRecord.endArming_holdCharged rfl

theorem testArming_limits (hw : s.seq.sweep.atRest = false) : s.LimitsFollow s.testArming := by
  unfold State.testArming
  split
  · split
    · exact armed_limits hw
    · exact (enterTerminal_limits (s := s.setCause .noneReady) .aborted hw).after rfl rfl rfl
  · exact .refl s

theorem endSettle_limits (hw : s.seq.sweep.atRest = false) : s.LimitsFollow s.endSettle := by
  unfold State.endSettle
  dsimp only
  split
  · exact .of_moved hw (Nat.zero_le _) rfl
  · exact .of_moved hw le_rfl rfl

theorem testSettle_limits (hw : s.seq.sweep.atRest = false) : s.LimitsFollow s.testSettle := by
  unfold State.testSettle
  split
  · exact endSettle_limits hw
  · exact .refl s

theorem endMeasure_limits (hw : s.seq.sweep.atRest = false) : s.LimitsFollow s.endMeasure := by
  unfold State.endMeasure
  dsimp only
  split
  · exact .of_moved hw (Nat.zero_le _) rfl
  · exact .of_moved_map hw (Nat.zero_le _) SlotRecord.callQuiet_holdCharged rfl

theorem testMeasure_limits (hw : s.seq.sweep.atRest = false) : s.LimitsFollow s.testMeasure := by
  unfold State.testMeasure
  split
  · exact endMeasure_limits hw
  · exact .refl s

theorem testReduce_limits (s : State) : s.LimitsFollow s.testReduce := by
  unfold State.testReduce State.startEvaluation
  split
  · dsimp only
    split <;> exact .of_same rfl rfl rfl
  · exact .refl s

theorem testDeadline_limits (o : HaltOrigin) (hw : s.seq.sweep.atRest = false) : s.LimitsFollow (s.testDeadline o) := by
  unfold State.testDeadline
  split
  · exact .of_moved hw (Nat.zero_le _) rfl
  · exact .refl s

theorem phaseTest_limits (fell : Bool) (s : State) : s.LimitsFollow (s.phaseTest fell) := by
  unfold State.phaseTest
  split
  case h_1 hw => exact testArming_limits (by rw [hw]; rfl)
  case h_2 hw =>
    split
    · exact s.allLost_limits
    · exact testSettle_limits (by rw [hw]; rfl)
  case h_3 hw =>
    split
    · exact s.allLost_limits
    · exact testMeasure_limits (by rw [hw]; rfl)
  case h_4 hw =>
    exact s.testReduce_limits.trans (testDeadline_limits .reduce (by rw [testReduce_sweep, hw]; rfl))
  case h_5 hw => exact testDeadline_limits .aborting (by rw [hw]; rfl)
  all_goals exact .refl s

theorem countMissedRuns_limits (s : State) : s.LimitsFollow s.countMissedRuns where
  sweep := .inl rfl
  hold := le_rfl
  charge i := by
    unfold State.countMissedRuns
    by_cases hi : i < 24
    · rw [Table.get_mapIdx _ s.slots hi, SlotRecord.countMissed_holdCharged]
    · rw [Table.get_outside _ (Nat.le_of_not_lt hi), Table.get_outside _ (Nat.le_of_not_lt hi)]

theorem bookkeep_limits (s : State) : s.LimitsFollow s.bookkeep := by
  unfold State.bookkeep
  split
  · split
    · exact s.countMissedRuns_limits
    · exact (countMissedRuns_limits s.countGaps).after rfl rfl rfl
    · exact .refl s
    · exact .refl s
  · exact .refl s

theorem marker_limits (s : State) : s.LimitsFollow s.marker :=
  have hpulse : s.LimitsFollow s.pulse := .of_same rfl rfl rfl
  have hwindows : s.pulse.bookkeep.LimitsFollow s.pulse.bookkeep.emptyWindows := .of_same rfl rfl rfl
  ((hpulse.trans (bookkeep_limits _)).trans hwindows).trans (phaseTest_limits _ _)

/-- An expiry takes one from hold remaining, or stops the timer, or pulses a marker (R57, R82). -/
theorem expire_limits (s : State) : s.LimitsFollow s.expire := by
  unfold State.expire
  split
  · exact ⟨.inl rfl, Nat.sub_le _ _, fun _ => le_rfl⟩
  · split
    · exact .of_same rfl rfl rfl
    · exact s.marker_limits

end State

-- ==== What a request can do to the generation and the holds ====

/-- The changes a request can make to what the two laws speak of. -/
inductive LimitsWork (s t : State) : Prop
  | follows (hg : t.generation = s.generation) (ht : t.timing = s.timing) (h : s.LimitsFollow t)
  | started (h : t = s.startSweep)
  | timed (hw : s.seq.sweep.atRest = true) (f : TimingFields) (h : t = { s with timing := timingOf f })
  | granted (slot granted : Nat) (hg : granted ≤ 8 - s.seq.hold)
      (hl : granted ≤ s.timing.allowance - (s.slots.get slot).holdCharged) (h : t = s.grantHold slot granted)
  | emptied (h : t = s.campaignReset)

/-- START, SET TIMING, HOLD and RESET CAMPAIGN are the only requests that do more than follow within the limits. -/
theorem BlockWork.limitsWork {src : SourceId} {s t : State} (h : BlockWork src s t) : LimitsWork s t := by
  have written : ∀ (slot : Nat) (r : SlotRecord), r.holdCharged ≤ (s.slots.get slot).holdCharged →
      LimitsWork s (s.setSlot slot r) := fun _ _ hr => .follows rfl rfl (.of_setSlot hr)
  cases h with
  | start => exact .started rfl
  | storeTiming f hw => exact .timed hw f rfl
  | hold slot granted _ _ hg hl => exact .granted slot granted hg hl rfl
  | campaignReset => exact .emptied rfl
  | enrol slot => exact written slot _ (Nat.zero_le _)
  | leave slot => exact written slot _ (Nat.zero_le _)
  | release slot => exact written slot _ (Nat.zero_le _)
  | reenrol slot => exact written slot _ le_rfl
  | restart slot => exact written slot _ le_rfl
  | contest slot => exact written slot _ le_rfl
  | addPage slot => exact written slot _ le_rfl
  | ready slot => exact written slot _ le_rfl
  | restartActive | contestActive => exact .follows (by simp) (by simp) ((State.activeFell_limits _).after_setSlot le_rfl)
  | quiet => exact .follows (by simp) (by simp) ((State.quietAnswered_limits _).after_setSlot le_rfl)
  | abort => exact .follows (by simp) (by simp) (s.abortSweep_limits _)
  | continueSettle hw => exact .follows rfl rfl (.of_moved (by rw [hw]; rfl) le_rfl rfl)
  | continueMeasure hw => exact .follows rfl rfl (.of_moved (by rw [hw]; rfl) le_rfl rfl)
  | continueReduce hw =>
    exact .follows rfl rfl (.of_moved_map (by rw [hw]; rfl) le_rfl SlotRecord.callQuiet_holdCharged rfl)
  | clearHalt o hw =>
    have hhalt : s.answerQuiet.LimitsFollow (s.answerQuiet.leaveHalt o) :=
      State.leaveHalt_limits o (by rw [State.answerQuiet_seq, hw]; rfl)
    exact .follows (by simp) (by simp) (s.answerQuiet_limits.trans hhalt)
  | releaseAndPush head rest f =>
    exact .follows (by simp) (by simp) ((State.pushPending_limits f { s with findings := rest }).after rfl rfl rfl)
  | report => exact .follows (by simp) (by simp) (.of_same (by simp) (by simp) (by simp))
  | _ => exact .follows rfl rfl (.of_same rfl rfl rfl)

-- ==== The generation (R42) ====

theorem State.LimitsFollow.generationOk {s t : State} (h : s.LimitsFollow t) (hg : t.generation = s.generation)
    (hs : s.GenerationOk) : t.GenerationOk := by
  refine ⟨hg ▸ hs.1, fun hne => hg ▸ hs.2 fun hidle => ?_⟩
  rcases h.sweep with hw | hw
  · exact hne (hw.trans hidle)
  · rw [hidle] at hw
    exact absurd hw (by decide)

/-- The next generation lies in 1..63 (R41). -/
theorem nextGeneration_inRange {g : Nat} (h : g ≤ 63) : 1 ≤ nextGeneration g ∧ nextGeneration g ≤ 63 := by
  unfold nextGeneration
  split <;> omega

theorem LimitsWork.generationOk {s t : State} (h : LimitsWork s t) (hs : s.GenerationOk) : t.GenerationOk := by
  cases h with
  | follows hg _ h => exact h.generationOk hg hs
  | started h =>
    obtain ⟨hlow, hhigh⟩ := nextGeneration_inRange hs.1
    exact h ▸ ⟨hhigh, fun _ => hlow⟩
  | timed _ f h => exact h ▸ hs
  | granted slot granted _ _ h => exact h ▸ hs
  | emptied h => exact h ▸ ⟨hs.1, fun hne => absurd rfl hne⟩

-- ==== The holds (R81, R83) ====

/-- The default settings lie in their ranges. -/
theorem Timing.InRange.default : Timing.InRange {} := ⟨by decide, by decide, by decide, by decide, by decide⟩

/-- SET TIMING clamps every value into its range (R83). -/
theorem timingOf_inRange (f : TimingFields) : (timingOf f).InRange := by
  refine ⟨?_, ?_, ?_, ?_, ?_⟩ <;> (simp only [timingOf, clampTo]; omega)

theorem State.LimitsFollow.holdOk {s t : State} (h : s.LimitsFollow t) (ht : t.timing = s.timing) (hs : s.HoldOk) :
    t.HoldOk where
  timing := ht ▸ hs.timing
  hold := h.hold.trans hs.hold
  charge i := (h.charge i).trans (hs.charge i)
  allowed hrest i := by
    have hrest' : s.seq.sweep.atRest = false := by
      rcases h.sweep with hw | hw
      · rwa [← hw]
      · exact hw
    rw [ht]
    exact (h.charge i).trans (hs.allowed hrest' i)

/-- Where nothing is held and nothing charged, only the settings need to be in range. -/
theorem State.HoldOk.of_uncharged {s : State} (ht : s.timing.InRange) (hh : s.seq.hold = 0)
    (hc : ∀ i, (s.slots.get i).holdCharged = 0) : s.HoldOk where
  timing := ht
  hold := by omega
  charge i := by rw [hc]; exact Nat.zero_le _
  allowed _ i := by rw [hc]; exact Nat.zero_le _

/-- START clears every charge (R29). -/
theorem State.startSweep_holdCharged (s : State) (i : Nat) : (s.startSweep.slots.get i).holdCharged = 0 := by
  by_cases hi : i < 24
  · exact congrArg SlotRecord.holdCharged (Table.get_map SlotRecord.atStart s.slots hi)
  · exact congrArg SlotRecord.holdCharged (Table.get_outside s.startSweep.slots (Nat.le_of_not_lt hi))

/-- A grant within what the allowance leaves brings no charge above a bound that the charges and the allowance meet. -/
theorem grantHold_holdCharged_le {s : State} {slot granted bound : Nat}
    (hl : granted ≤ s.timing.allowance - (s.slots.get slot).holdCharged) (ha : s.timing.allowance ≤ bound)
    (hc : ∀ i, (s.slots.get i).holdCharged ≤ bound) (i : Nat) :
    ((s.grantHold slot granted).slots.get i).holdCharged ≤ bound := by
  rw [State.grantHold_slots]
  by_cases hslot : slot < 24
  · rw [Table.get_set _ _ _ _ hslot]
    split
    · have := hc slot
      dsimp only
      omega
    · exact hc i
  · rw [Table.set_outside _ (Nat.le_of_not_lt hslot)]
    exact hc i

/-- A grant within what hold remaining and the allowance leave keeps both limits (R81). -/
theorem State.HoldOk.grantHold {s : State} (hs : s.HoldOk) {slot granted : Nat} (hg : granted ≤ 8 - s.seq.hold)
    (hl : granted ≤ s.timing.allowance - (s.slots.get slot).holdCharged) : (s.grantHold slot granted).HoldOk where
  timing := hs.timing
  hold := by
    have := hs.hold
    simp only [State.grantHold_seq]
    omega
  charge := grantHold_holdCharged_le hl hs.timing.allowance hs.charge
  allowed hrest := grantHold_holdCharged_le hl le_rfl (hs.allowed hrest)

theorem LimitsWork.holdOk {s t : State} (h : LimitsWork s t) (hs : s.HoldOk) : t.HoldOk := by
  cases h with
  | follows _ ht h => exact h.holdOk ht hs
  | started h => exact h ▸ .of_uncharged hs.timing rfl s.startSweep_holdCharged
  | timed hw f h =>
    subst h
    exact ⟨timingOf_inRange f, hs.hold, hs.charge, fun hrest => absurd (hw.symm.trans hrest) (by decide)⟩
  | granted slot granted hg hl h => exact h ▸ hs.grantHold hg hl
  | emptied h => exact h ▸ .of_uncharged hs.timing rfl fun i => congrArg SlotRecord.holdCharged (slots_empty i)

-- ==== The two laws, over every step ====

theorem step_generationOk {s t : State} (h : step s = .next t) (hs : s.GenerationOk) : t.GenerationOk :=
  step_keeps (P := State.GenerationOk)
    (hp := fun _ _ _ _ hs => hs)
    (hreset := ⟨Nat.zero_le _, fun hne => absurd rfl hne⟩)
    (hwork := fun _ _ _ hw hs => hw.limitsWork.generationOk hs)
    (hexpire := fun s hs _ => s.expire_limits.generationOk s.expire_generation hs)
    (hlink := fun s k x hs _ => (s.stepLink_limits k x).generationOk (s.stepLink_generation k x) hs)
    (hun := fun s rx hs _ => (s.stepUnplanned_limits rx).generationOk (s.stepUnplanned_generation rx) hs)
    h hs

theorem step_holdOk {s t : State} (h : step s = .next t) (hs : s.HoldOk) : t.HoldOk :=
  step_keeps (P := State.HoldOk)
    (hp := fun _ _ _ _ hs => ⟨hs.timing, hs.hold, hs.charge, hs.allowed⟩)
    (hreset := .of_uncharged .default rfl fun i => congrArg SlotRecord.holdCharged (slots_empty i))
    (hwork := fun _ _ _ hw hs => hw.limitsWork.holdOk hs)
    (hexpire := fun s hs _ => s.expire_limits.holdOk s.expire_timing hs)
    (hlink := fun s k x hs _ => (s.stepLink_limits k x).holdOk (s.stepLink_timing k x) hs)
    (hun := fun s rx hs _ => (s.stepUnplanned_limits rx).holdOk (s.stepUnplanned_timing rx) hs)
    h hs

/-- Settles O55: a step follows within the limits, or does one of the other changes of `LimitsWork`; each keeps both laws. -/
theorem generationAndHoldsStay : Obligations.GenerationAndHoldsStay :=
  fun _ _ h => ⟨step_generationOk h, step_holdOk h⟩

end Sys2Proof.Machine
end

section
/-!
The words of the Tag Unit (R43, R44, R49–R53): the fields of a word as numbers, the fields of a tag, and the class of a
reported word by its fields.
-/

namespace Sys2Proof.Machine

-- ==== The fields of a word as numbers (R187) ====

/-- A field of a word is read by shifting it down and dropping what stands above it. -/
theorem field_toNat (w : Word) (start len : Nat) :
    (w.extractLsb' start len).toNat = w.toNat / 2 ^ start % 2 ^ len := by
  rw [BitVec.extractLsb'_toNat, Nat.shiftRight_eq_div_pow]

theorem generationField_eq (w : Word) : generationField w = w.toNat / 2 ^ 22 % 64 := field_toNat w 22 6

theorem endpointField_eq (w : Word) : endpointField w = w.toNat / 2 ^ 12 % 1024 := field_toNat w 12 10

theorem checkField_eq (w : Word) : checkField w = w.toNat % 4096 := by
  simp [checkField]

/-- The marker stands in the top bits, so nothing above it has to be dropped. -/
theorem markerField_toNat (w : Word) : (markerField w).toNat = w.toNat / 2 ^ 28 := by
  have hw := w.isLt
  rw [markerField, field_toNat]
  omega

theorem markerField_eq_iff (w : Word) (m : BitVec 4) : markerField w = m ↔ w.toNat / 2 ^ 28 = m.toNat := by
  rw [← markerField_toNat, BitVec.toNat_inj]

/-- Two fields written side by side, as a number. -/
theorem append_toNat {n m : Nat} (a : BitVec n) (b : BitVec m) : (a ++ b).toNat = a.toNat * 2 ^ m + b.toNat := by
  rw [BitVec.toNat_append, ← Nat.shiftLeft_add_eq_or_of_lt b.isLt, Nat.shiftLeft_eq]

theorem tagWord_toNat (marker : BitVec 4) (g : BitVec 6) (e : BitVec 10) (c : BitVec 12) :
    (tagWord marker g e c).toNat = marker.toNat * 2 ^ 28 + g.toNat * 2 ^ 22 + e.toNat * 2 ^ 12 + c.toNat := by
  rw [tagWord, append_toNat, append_toNat, append_toNat]
  omega

-- ==== The class of a word by its marker (R50, R51) ====

theorem classify_unlocked (generation : Nat) (raw : Word) : classify generation false raw = .none := rfl

theorem classify_direct {raw : Word} (h : raw.toNat / 2 ^ 28 = 12) (generation : Nat) :
    classify generation true raw = classifyTaken generation raw false := by
  have hm : markerField raw = 12 := (markerField_eq_iff raw 12).2 h
  rw [classify, if_pos rfl, if_pos hm]

theorem classify_inverted {raw : Word} (h : raw.toNat / 2 ^ 28 = 3) (generation : Nat) :
    classify generation true raw = classifyTaken generation (~~~raw) true := by
  have hm : markerField raw = 3 := (markerField_eq_iff raw 3).2 h
  simp [classify, hm]

theorem classify_noMarker {raw : Word} (h : raw.toNat / 2 ^ 28 ≠ 12) (h' : raw.toNat / 2 ^ 28 ≠ 3) (generation : Nat) :
    classify generation true raw = .garbled := by
  have hm : markerField raw ≠ 12 := mt (markerField_eq_iff raw 12).1 h
  have hm' : markerField raw ≠ 3 := mt (markerField_eq_iff raw 3).1 h'
  rw [classify, if_pos rfl, if_neg hm, if_neg hm']

-- ==== The class of a word taken, by its fields (R51, R52) ====

section Taken

variable {w : Word}

theorem classifyTaken_garbled (h : 767 < endpointField w ∨ checkField w ≠ tagCheck (endpointField w) (generationField w))
    (generation : Nat) (inverted : Bool) : classifyTaken generation w inverted = .garbled := by
  refine if_neg fun ⟨he, hc⟩ => ?_
  rcases h with h | h
  · omega
  · exact h hc

theorem classifyTaken_current (he : endpointField w ≤ 767)
    (hc : checkField w = tagCheck (endpointField w) (generationField w)) (inverted : Bool) :
    classifyTaken (generationField w) w inverted =
      .valid (if inverted then .inverted else .direct) (endpointField w) inverted := by
  rw [classifyTaken, if_pos ⟨he, hc⟩, if_pos rfl]

theorem classifyTaken_stale (he : endpointField w ≤ 767)
    (hc : checkField w = tagCheck (endpointField w) (generationField w)) {generation : Nat}
    (hg : generationField w ≠ generation) (inverted : Bool) :
    classifyTaken generation w inverted = .valid .stale (endpointField w) inverted := by
  rw [classifyTaken, if_pos ⟨he, hc⟩, if_neg hg]

end Taken

/-- The tests on a word taken, as the spec orders them, over the fields of the word as numbers (R51, R52). -/
theorem classifyTaken_byFields (generation : Nat) (w : Word) (inverted : Bool) {v g e c : Nat} (hv : v = w.toNat)
    (hg : g = v / 2 ^ 22 % 64) (he : e = v / 2 ^ 12 % 1024) (hc : c = v % 4096) :
    (767 < e ∨ c ≠ (37 * e + 11 * g + 1445) % 4096 → classifyTaken generation w inverted = .garbled) ∧
    (e ≤ 767 → c = (37 * e + 11 * g + 1445) % 4096 → g = generation →
      classifyTaken generation w inverted = .valid (if inverted then .inverted else .direct) e inverted) ∧
    (e ≤ 767 → c = (37 * e + 11 * g + 1445) % 4096 → g ≠ generation →
      classifyTaken generation w inverted = .valid .stale e inverted) := by
  subst hv
  rw [← generationField_eq] at hg
  rw [← endpointField_eq] at he
  rw [← checkField_eq] at hc
  subst hg he hc
  refine ⟨fun h => classifyTaken_garbled h generation inverted, fun he hc hg => ?_, fun he hc hg => ?_⟩
  · exact hg ▸ classifyTaken_current he hc inverted
  · exact classifyTaken_stale he hc hg inverted

/-- Settles O30: the marker says which word is taken, and the fields of that word decide. -/
theorem classificationFollowsTheFields : Obligations.ClassificationFollowsTheFields := by
  intro generation raw v g e c hg he hc
  refine ⟨classify_unlocked generation raw, fun h h' => classify_noMarker h h' generation, fun hm hv => ?_, fun hm hv => ?_⟩
  · rw [classify_direct hm]
    exact classifyTaken_byFields generation raw false hv hg he hc
  · rw [classify_inverted hm]
    exact classifyTaken_byFields generation (~~~raw) true (hv.trans BitVec.toNat_not.symm) hg he hc

-- ==== The fields of a tag (R43, R44) ====

theorem tagCheck_lt (e g : Nat) : tagCheck e g < 4096 := Nat.mod_lt _ (by decide)

section Tag

variable {e g : Nat}

theorem tag_toNat (he : e ≤ 767) (hg : g ≤ 63) :
    (tag e g).toNat = 12 * 2 ^ 28 + g * 2 ^ 22 + e * 2 ^ 12 + tagCheck e g := by
  have hcheck := tagCheck_lt e g
  rw [tag, tagWord_toNat, BitVec.toNat_ofNat, BitVec.toNat_ofNat, BitVec.toNat_ofNat,
    Nat.mod_eq_of_lt (by omega : g < 2 ^ 6), Nat.mod_eq_of_lt (by omega : e < 2 ^ 10), Nat.mod_eq_of_lt hcheck]
  rfl

/-- The complement of a tag is the word of the complements of its fields. -/
theorem complement_tag_toNat (he : e ≤ 767) (hg : g ≤ 63) :
    (~~~tag e g).toNat = 3 * 2 ^ 28 + (63 - g) * 2 ^ 22 + (1023 - e) * 2 ^ 12 + (4095 - tagCheck e g) := by
  have hcheck := tagCheck_lt e g
  rw [BitVec.toNat_not, tag_toNat he hg]
  omega

theorem generationField_tag (he : e ≤ 767) (hg : g ≤ 63) : generationField (tag e g) = g := by
  have hcheck := tagCheck_lt e g
  rw [generationField_eq, tag_toNat he hg]
  omega

theorem endpointField_tag (he : e ≤ 767) (hg : g ≤ 63) : endpointField (tag e g) = e := by
  have hcheck := tagCheck_lt e g
  rw [endpointField_eq, tag_toNat he hg]
  omega

theorem checkField_tag (he : e ≤ 767) (hg : g ≤ 63) : checkField (tag e g) = tagCheck e g := by
  have hcheck := tagCheck_lt e g
  rw [checkField_eq, tag_toNat he hg]
  omega

/-- A tag's check field is that of its own endpoint and generation, so that the tag passes both tests of R51. -/
theorem checkField_tag_sound (he : e ≤ 767) (hg : g ≤ 63) :
    checkField (tag e g) = tagCheck (endpointField (tag e g)) (generationField (tag e g)) := by
  rw [checkField_tag he hg, endpointField_tag he hg, generationField_tag he hg]

theorem classifyTaken_tag_current (he : e ≤ 767) (hg : g ≤ 63) (inverted : Bool) :
    classifyTaken g (tag e g) inverted = .valid (if inverted then .inverted else .direct) e inverted := by
  have hvalid := (endpointField_tag he hg).le.trans he
  have h := classifyTaken_current hvalid (checkField_tag_sound he hg) inverted
  rwa [generationField_tag he hg, endpointField_tag he hg] at h

theorem classifyTaken_tag_stale (he : e ≤ 767) (hg : g ≤ 63) {other : Nat} (hother : other ≠ g) (inverted : Bool) :
    classifyTaken other (tag e g) inverted = .valid .stale e inverted := by
  have hvalid := (endpointField_tag he hg).le.trans he
  have hne : generationField (tag e g) ≠ other := by rw [generationField_tag he hg]; exact hother.symm
  have h := classifyTaken_stale hvalid (checkField_tag_sound he hg) hne inverted
  rwa [endpointField_tag he hg] at h

theorem classify_tag (he : e ≤ 767) (hg : g ≤ 63) (generation : Nat) :
    classify generation true (tag e g) = classifyTaken generation (tag e g) false := by
  have hcheck := tagCheck_lt e g
  refine classify_direct ?_ generation
  rw [tag_toNat he hg]
  omega

/-- The complement of a tag is complemented back before it is tested (R51). -/
theorem classify_complement_tag (he : e ≤ 767) (hg : g ≤ 63) (generation : Nat) :
    classify generation true (~~~tag e g) = classifyTaken generation (tag e g) true := by
  have hcheck := tagCheck_lt e g
  have hmarker : (~~~tag e g).toNat / 2 ^ 28 = 3 := by
    rw [complement_tag_toNat he hg]
    omega
  rw [classify_inverted hmarker, BitVec.not_not]

/-- Tags of different endpoints or generations differ, because a field differs. -/
theorem tag_injective (he : e ≤ 767) (hg : g ≤ 63) {e' g' : Nat} (he' : e' ≤ 767) (hg' : g' ≤ 63)
    (h : tag e g = tag e' g') : e = e' ∧ g = g' := by
  constructor
  · rw [← endpointField_tag he hg, h, endpointField_tag he' hg']
  · rw [← generationField_tag he hg, h, generationField_tag he' hg']

end Tag

/-- Settles O31: the fields of a tag and of its complement are read off their numbers, and both are tested as the tag. -/
theorem tagsClassifyAsThemselves : Obligations.TagsClassifyAsThemselves := by
  intro e g c he _ hg hc
  rw [← tagCheck] at hc
  rw [hc]
  refine ⟨tag_toNat he hg, complement_tag_toNat he hg, ?_, ?_, fun other hother => ⟨?_, ?_⟩,
    fun e' g' he' _ hg' h => tag_injective he hg he' hg' h⟩
  · exact (classify_tag he hg g).trans (classifyTaken_tag_current he hg false)
  · exact (classify_complement_tag he hg g).trans (classifyTaken_tag_current he hg true)
  · exact (classify_tag he hg other).trans (classifyTaken_tag_stale he hg hother false)
  · exact (classify_complement_tag he hg other).trans (classifyTaken_tag_stale he hg hother true)

end Sys2Proof.Machine
end

section
/-!
The station's requests START, ABORT and RESET CAMPAIGN, and the probe's request HOLD: each refusal and each effect (R60, R61,
R71, R79–R81). First what they share: counts over a whole table, and a station's answer that may pulse EPOCH.
-/

namespace Sys2Proof

-- ==== Counts that need no bound ====

variable {α : Type} [Inhabited α] {n : Nat} {t : Table α n} {p : α → Bool}

/-- Where the default record does not count, no number outside the table does. -/
theorem Table.count_eq_zero_iff_forall (hd : p default = false) : t.count p = 0 ↔ ∀ i, p (t.get i) = false := by
  rw [Table.count_eq_zero]
  refine ⟨fun h i => ?_, fun h i _ => h i⟩
  by_cases hi : i < n
  · exact h i hi
  · rw [Table.get_outside t (Nat.le_of_not_lt hi), hd]

theorem Table.count_pos_iff_exists (hd : p default = false) : 0 < t.count p ↔ ∃ i, p (t.get i) = true := by
  rw [Nat.pos_iff_ne_zero, Ne, Table.count_eq_zero_iff_forall hd]
  simp

end Sys2Proof

namespace Sys2Proof.Machine

-- ==== A station's answer ====

/-- A number of one byte (R189). -/
theorem be_one (k : Nat) : be 1 k = [byte k] := by
  simp [be, byte]

/-- A station's request is answered with what its block gives; the pulse on EPOCH is the block's. -/
theorem State.FromStation.deliver_pulsed {s : State} {rq : Requester} (h : s.FromStation rq) {n : Nat} (hn : n ≤ 128)
    {body : State → Answer} {a : Answer} (hb : body s.quietLines = a) (hsent : a.state.lines.sent = none) :
    s.deliver rq (some { cls := .station, lengthOk := true, body := body }) n =
      a.state.answered rq a.result a.payload a.state.lines.epochPulse := by
  obtain ⟨hlisten, hsource⟩ := h
  have hpermits : RequesterClass.station.permits rq.source = true := decide_eq_true hsource
  exact State.deliver_taken hlisten hn hpermits rfl hb hsent

theorem State.FromStation.exec_resetCampaign {s t : State} {rq : Requester} (h : s.FromStation rq) {r : Result}
    {p : List Byte} (hb : resetCampaignBody s.quietLines = { state := t.quietLines, result := r, payload := p }) :
    exec (.resetCampaign rq) s = .next (t.answered rq r p) :=
  congrArg Host.Outcome.next (h.deliver_eq (by decide) hb)

theorem State.FromStation.exec_abort {s t : State} {rq : Requester} (h : s.FromStation rq) {r : Result}
    {p : List Byte} (hb : abortBody s.quietLines = { state := t.quietLines, result := r, payload := p }) :
    exec (.abort rq) s = .next (t.answered rq r p) :=
  congrArg Host.Outcome.next (h.deliver_eq (by decide) hb)

theorem State.FromStation.exec_start {s t : State} {rq : Requester} (h : s.FromStation rq) {r : Result}
    {p : List Byte} (hb : startBody s.quietLines = { state := t.quietLines, result := r, payload := p }) :
    exec (.start rq) s = .next (t.answered rq r p) :=
  congrArg Host.Outcome.next (h.deliver_eq (by decide) hb)

/-- A START taken pulses marker 0 (R61). -/
theorem State.FromStation.exec_start_taken {s : State} {rq : Requester} (h : s.FromStation rq) {p : List Byte}
    (hb : startBody s.quietLines = accept p s.quietLines.startSweep) :
    exec (.start rq) s = .next (s.startSweep.answered rq .ok p true) :=
  congrArg Host.Outcome.next (h.deliver_pulsed (by decide) hb rfl)

-- ==== The three requests by the sweep state (R60, R71, R79) ====

section AtRest

variable {s : State} (h : s.Open)
include h

theorem resetCampaignBody_open : resetCampaignBody s = accept [] s.campaignReset := by
  rcases h with h | h | h <;> simp [resetCampaignBody, h]

theorem startBody_open : startBody s = startAtRest s := by
  rcases h with h | h | h <;> simp [startBody, h]

theorem abortBody_open : abortBody s = refuse .notNow s := by
  rcases h with h | h | h <;> simp [abortBody, h]

end AtRest

section UnderWay

variable {s : State} (h : s.seq.sweep = .arming ∨ s.seq.sweep = .settle ∨ s.seq.sweep = .measure ∨
  (∃ p, s.seq.sweep = .stopped p) ∨ s.seq.sweep = .reduce ∨ s.seq.sweep = .aborting)
include h

theorem resetCampaignBody_underWay : resetCampaignBody s = refuse .busy s := by
  rcases h with h | h | h | ⟨p, h⟩ | h | h <;> simp [resetCampaignBody, h]

theorem startBody_underWay : startBody s = refuse .busy s := by
  rcases h with h | h | h | ⟨p, h⟩ | h | h <;> simp [startBody, h]

theorem abortBody_underWay : abortBody s = accept [] (s.abortSweep .station) := by
  rcases h with h | h | h | ⟨p, h⟩ | h | h <;> simp [abortBody, h]

end UnderWay

section Halted

variable {s : State} (h : ∃ o, s.seq.sweep = .halted o)
include h

theorem resetCampaignBody_halted : resetCampaignBody s = refuse .notNow s := by
  obtain ⟨o, h⟩ := h
  simp [resetCampaignBody, h]

theorem startBody_halted : startBody s = refuse .notNow s := by
  obtain ⟨o, h⟩ := h
  simp [startBody, h]

theorem abortBody_halted : abortBody s = refuse .notNow s := by
  obtain ⟨o, h⟩ := h
  simp [abortBody, h]

end Halted

-- ==== RESET CAMPAIGN (R79) ====

/-- Settles O4: the sweep state decides, and what is taken is the campaign reset written out. -/
theorem resetCampaignRestoresEveryBlock : Obligations.ResetCampaignRestoresEveryBlock := by
  intro s rq hrq
  refine ⟨fun hw => ?_, fun hw => ?_, fun hw => ?_⟩
  · exact hrq.exec_resetCampaign (t := s.campaignReset) (resetCampaignBody_open (s := s.quietLines) hw)
  · exact hrq.exec_resetCampaign (resetCampaignBody_underWay (s := s.quietLines) hw)
  · exact hrq.exec_resetCampaign (resetCampaignBody_halted (s := s.quietLines) hw)

-- ==== START (R60, R61) ====

theorem State.linkCount_eq_zero {s : State} : s.linkCount = 0 ↔ ∀ k, s.links.get k = none := by
  rw [State.linkCount_eq_count, Table.count_eq_zero_iff_forall rfl]
  simp

theorem State.enrolledCount_eq_zero {s : State} : s.enrolledCount = 0 ↔ ∀ i, (s.slots.get i).state ≠ .enrolled := by
  rw [State.enrolledCount, Table.count_eq_zero_iff_forall (by decide)]
  simp

theorem startAtRest_empty {s : State}
    (h : (∀ k, s.links.get k = none) ∨ ∀ i, (s.slots.get i).state ≠ .enrolled) : startAtRest s = refuse .empty s := by
  rw [← State.linkCount_eq_zero, ← State.enrolledCount_eq_zero] at h
  exact if_pos h

theorem startAtRest_taken {s : State} {k i : Nat} {l : Link} (hl : s.links.get k = some l)
    (hi : (s.slots.get i).state = .enrolled) :
    startAtRest s = accept [byte (nextGeneration s.generation)] s.startSweep := by
  have hlinks : s.linkCount ≠ 0 := fun h => by simp [State.linkCount_eq_zero.1 h k] at hl
  have hslots : s.enrolledCount ≠ 0 := fun h => State.enrolledCount_eq_zero.1 h i hi
  rw [← be_one]
  exact if_neg (not_or.2 ⟨hlinks, hslots⟩)

/-- Settles O32: the sweep state decides, then the emptiness check, and what is taken is START's work written out. -/
theorem startTakenOrRefused : Obligations.StartTakenOrRefused := by
  intro s rq hrq
  refine ⟨fun hw => ?_, fun hw => ?_, fun hw hempty => ?_, ?_⟩
  · exact hrq.exec_start (startBody_underWay (s := s.quietLines) hw)
  · exact hrq.exec_start (startBody_halted (s := s.quietLines) hw)
  · exact hrq.exec_start ((startBody_open (s := s.quietLines) hw).trans (startAtRest_empty hempty))
  · rintro g k l i hw hl hi rfl
    exact hrq.exec_start_taken ((startBody_open (s := s.quietLines) hw).trans (startAtRest_taken hl hi))

-- ==== What a quiet call and an abort do (R36, R71, R73) ====

/-- The slots called when a quiet call starts (R36). -/
theorem SlotRecord.called_iff {r : SlotRecord} :
    r.called = true ↔ r.state = .active ∨ r.state = .lost ∨ (r.state = .conflict ∧ r.lostByConflict = true) := by
  simp [SlotRecord.called, SlotRecord.isLost]

theorem map_callQuiet {n : Nat} (t : Table SlotRecord n) :
    t.map SlotRecord.callQuiet = t.map fun r =>
      if r.state = .active ∨ r.state = .lost ∨ (r.state = .conflict ∧ r.lostByConflict = true) then
        { r with quietOwed := true, quietAcked := false } else r :=
  congrArg (Table.map · t) (funext fun _ => if_congr SlotRecord.called_iff rfl rfl)

theorem State.ensureQuietCall_notStarted {s : State} (h : s.seq.quietCall = .notStarted) :
    s.ensureQuietCall = s.startQuietCall := by
  simp [State.ensureQuietCall, h]

theorem State.ensureQuietCall_begun {s : State} (h : s.seq.quietCall ≠ .notStarted) : s.ensureQuietCall = s := by
  unfold State.ensureQuietCall
  split
  · contradiction
  · rfl
  · rfl

/-- A pass that is over stays as it is; any other becomes STOPPED at its position, with no pending finding (R71, R158). -/
theorem State.stopPass_eq {s : State} {cursor : Cursor} {evaluation : Evaluation}
    (h : if s.cursor.stage = .complete ∨ s.cursor.stage = .stopped then
        cursor = s.cursor ∧ evaluation = s.seq.evaluation
      else cursor = { stage := .stopped, position := s.cursor.position, pendingFinding := none } ∧
        evaluation = .stopped) :
    s.stopPass = { s with cursor := cursor, seq := { s.seq with evaluation := evaluation } } := by
  unfold State.stopPass
  cases hstage : s.cursor.stage <;> rw [hstage] at h <;> obtain ⟨rfl, rfl⟩ := h <;> rfl

section Abort

variable {s : State} (c : AbortCause)

theorem State.abortSweep_aborting (h : s.seq.sweep = .aborting) : s.abortSweep c = s := by
  simp [State.abortSweep, h]

theorem State.abortSweep_arming (h : s.seq.sweep = .arming) :
    s.abortSweep c = (s.setCause c).enterTerminal .aborted := by
  simp [State.abortSweep, h]

theorem State.abortSweep_beforeSettle (h : s.seq.sweep = .stopped .settle) : s.abortSweep c = s.abortBeforeSettle c := by
  simp [State.abortSweep, h]

theorem State.abortSweep_running (h : s.seq.sweep = .settle ∨ s.seq.sweep = .measure) :
    s.abortSweep c = s.abortRunning c := by
  rcases h with h | h <;> simp [State.abortSweep, h]

/-- Out of STOPPED the quiet call starts if it has not, and the timer restarts (R71). -/
theorem State.abortSweep_stopped (h : s.seq.sweep = .stopped .measure ∨ s.seq.sweep = .stopped .reduce) {t : State}
    (hcall : ((s.closeSweep).setCause c).ensureQuietCall = t) : s.abortSweep c = t.restartTimer.enterAborting := by
  rcases h with h | h <;> simp [State.abortSweep, State.abortStopped, h, hcall]

variable (h : s.seq.sweep = .reduce) {t : State} (hpass : (s.setCause c).stopPass = t)
include h hpass

/-- Out of REDUCE the pass is stopped first; then the sweep ends if the quiet call has (R71). -/
theorem State.abortSweep_reduce_complete (hq : t.seq.quietCall = .complete) :
    s.abortSweep c = t.enterTerminal .aborted := by
  simp [State.abortSweep, State.abortReduce, h, hpass, hq]

theorem State.abortSweep_reduce_pending (hq : t.seq.quietCall ≠ .complete) : s.abortSweep c = t.enterAborting := by
  simp only [State.abortSweep, State.abortReduce, h, hpass]
  split
  · contradiction
  · rfl
  · rfl

end Abort

/-- Settles O34: ABORT is refused or aborts with cause STATION by the sweep state, and each row of R71 is the chain of
operations that the sweep state selects. -/
theorem abortByState : Obligations.AbortByState := by
  rintro s cause _ called _ rfl hcalled rfl
  obtain rfl : called = s.slots.map SlotRecord.callQuiet := hcalled.trans (map_callQuiet s.slots).symm
  refine ⟨fun rq hrq => ⟨fun hw => ?_, fun hw => ?_⟩, fun hw => ?_, fun hw => ?_, fun hw => ?_, fun hw => ?_,
    fun hw => ⟨fun hq => ?_, fun hq => ?_⟩, fun hw cursor evaluation hpass => ?_⟩
  · exact hrq.exec_abort (hw.elim (abortBody_open (s := s.quietLines)) (abortBody_halted (s := s.quietLines)))
  · refine hrq.exec_abort ((abortBody_underWay (s := s.quietLines) hw).trans ?_)
    rw [State.abortSweep_quietLines]
    rfl
  · exact State.abortSweep_aborting cause hw
  · exact State.abortSweep_arming cause hw
  · exact State.abortSweep_beforeSettle cause hw
  · exact State.abortSweep_running cause hw
  · exact State.abortSweep_stopped cause hw (State.ensureQuietCall_notStarted (s := (s.closeSweep).setCause cause) hq)
  · exact State.abortSweep_stopped cause hw (State.ensureQuietCall_begun (s := (s.closeSweep).setCause cause) hq)
  · have hstop := State.stopPass_eq (s := s.setCause cause) hpass
    exact ⟨State.abortSweep_reduce_pending cause hw hstop, State.abortSweep_reduce_complete cause hw hstop⟩

-- ==== HOLD (R80, R81) ====

theorem State.FromProbe.exec_hold {s t : State} {rq : Requester} (h : s.FromProbe rq) {b : Byte} {r : Result} {p : List Byte}
    (hb : holdBody rq.source b s.quietLines = { state := t.quietLines, result := r, payload := p }) :
    exec (.hold rq b) s = .next (t.answered rq r p) :=
  congrArg Host.Outcome.next (h.deliver_eq (by decide) hb)

theorem holdBody_noSlot {src : SourceId} {b : Byte} {s : State} (h : s.slotOf src = none) :
    holdBody src b s = refuse .notEnrolled s := by
  simp [holdBody, h]

theorem holdBody_slot {src : SourceId} {b : Byte} {s : State} {slot : Nat} (h : s.slotOf src = some slot) :
    holdBody src b s = holdSlot slot b.toNat s := by
  simp [holdBody, h]

section Hold

variable {s : State} {slot h : Nat}

theorem holdSlot_conflict (hr : (s.slots.get slot).state = .conflict) : holdSlot slot h s = refuse .conflict s :=
  if_pos hr

theorem holdSlot_lost (hr : (s.slots.get slot).state = .lost) : holdSlot slot h s = refuse .lost s := by
  simp [holdSlot, hr]

theorem holdSlot_notNow (hc : (s.slots.get slot).state ≠ .conflict) (hl : (s.slots.get slot).state ≠ .lost)
    (hw : (s.seq.sweep ≠ .settle ∧ s.seq.sweep ≠ .measure) ∨ (s.slots.get slot).state ≠ .active) :
    holdSlot slot h s = refuse .notNow s := by
  rcases hw with ⟨hs, hm⟩ | hr
  · simp [holdSlot, hc, hl, hs, hm]
  · simp [holdSlot, hc, hl, hr]

theorem holdSlot_active (hr : (s.slots.get slot).state = .active) (hw : s.seq.sweep = .settle ∨ s.seq.sweep = .measure) :
    holdSlot slot h s = holdGranted slot h s := by
  simp [holdSlot, hr, hw]

theorem State.holdPayload_eq (granted : Nat) : s.holdPayload granted slot =
    [byte granted, byte s.seq.hold, byte (s.slots.get slot).holdCharged] := by
  simp only [State.holdPayload, be_one, List.cons_append, List.nil_append]

theorem State.grantHold_payload (hslot : slot < 24) (granted : Nat) : (s.grantHold slot granted).holdPayload granted slot =
    [byte granted, byte (s.seq.hold + granted), byte ((s.slots.get slot).holdCharged + granted)] := by
  have hget : (s.grantHold slot granted).slots.get slot =
      { s.slots.get slot with holdCharged := (s.slots.get slot).holdCharged + granted } :=
    Table.get_set_same s.slots hslot _
  rw [State.holdPayload_eq, hget]
  rfl

theorem holdGranted_exhausted (hw : 0 < clampHold h - s.seq.hold)
    (hl : s.timing.allowance - (s.slots.get slot).holdCharged = 0) :
    holdGranted slot h s = refuseWith .exhausted [byte 0, byte s.seq.hold, byte (s.slots.get slot).holdCharged] s := by
  rw [← State.holdPayload_eq]
  exact if_pos ⟨hw, hl⟩

/-- The increase granted is the wanted one, or what the allowance still gives when that is less (R81). -/
theorem holdGranted_taken (hslot : slot < 24) {wanted left granted : Nat} (hwanted : wanted = clampHold h - s.seq.hold)
    (hleft : left = s.timing.allowance - (s.slots.get slot).holdCharged) (hgranted : granted = min wanted left)
    (hgive : wanted = 0 ∨ 0 < left) :
    holdGranted slot h s =
      { state := s.grantHold slot granted
        result := if clampHold h = h ∧ granted = wanted then .ok else .clamped
        payload := [byte granted, byte (s.seq.hold + granted), byte ((s.slots.get slot).holdCharged + granted)] } := by
  have hresult : (if clampHold h ≠ h ∨ granted < wanted then Result.clamped else .ok) =
      if clampHold h = h ∧ granted = wanted then .ok else .clamped :=
    (ite_not _ _ _).symm.trans (if_congr (by omega) rfl rfl)
  rw [← State.grantHold_payload hslot, ← hresult, hgranted, hwanted, hleft]
  exact if_neg (by omega)

end Hold

/-- Settles O36: the checks fail in the order of the definition, and the grant is the least of what is wanted and what is
left. -/
theorem holdGrants : Obligations.HoldGrants := by
  intro s rq b hrq
  refine ⟨fun hfree => ?_, ?_⟩
  · exact hrq.exec_hold (holdBody_noSlot (s := s.quietLines) (State.slotOf_none hfree))
  · rintro slot r hs rfl ha
    have hbody := holdBody_slot (b := b) (s := s.quietLines) (hs.slotOf_eq ha)
    refine ⟨fun hr => ?_, fun hr => ?_, fun hc hl hw => ?_, ?_⟩
    · exact hrq.exec_hold (hbody.trans (holdSlot_conflict hr))
    · exact hrq.exec_hold (hbody.trans (holdSlot_lost hr))
    · exact hrq.exec_hold (hbody.trans (holdSlot_notNow hc hl hw))
    · rintro hr hw length wanted left granted rfl hwanted hleft hgranted
      have hslot := hbody.trans (holdSlot_active (s := s.quietLines) hr hw)
      refine ⟨fun hmore hnone => ?_, fun hgive => ?_⟩
      · rw [hwanted] at hmore
        rw [hleft] at hnone
        exact hrq.exec_hold (hslot.trans (holdGranted_exhausted hmore hnone))
      · exact hrq.exec_hold (t := s.grantHold slot granted)
          (hslot.trans (holdGranted_taken (State.lt_of_holds ha) hwanted hleft hgranted hgive))

end Sys2Proof.Machine
end

section
/-!
The marker: the expiry of the epoch timer as one test of the sweep state on the part that the bookkeeping leaves, and what
each test decides (R58, R62–R67, R72, R75).
-/

namespace Sys2Proof.Machine

-- ==== The marker's work depends on none of the lines ====

theorem State.bookkeep_quietLines (s : State) : s.quietLines.bookkeep = s.bookkeep.quietLines := by
  unfold State.bookkeep
  rw [apply_ite State.quietLines, State.quietLines_seq]
  split
  · split <;> rfl
  · rfl

theorem State.allLost_quietLines (s : State) : s.quietLines.allLost = s.allLost.quietLines := by
  unfold State.allLost
  rw [apply_ite State.quietLines, State.abortSweep_quietLines, State.quietLines_seq]

theorem State.armed_quietLines (s : State) : s.quietLines.armed = s.armed.quietLines := by
  unfold State.armed
  dsimp only
  rw [apply_ite State.quietLines]
  rfl

theorem State.testArming_quietLines (s : State) : s.quietLines.testArming = s.testArming.quietLines := by
  unfold State.testArming
  rw [apply_ite State.quietLines, apply_ite State.quietLines, ← State.armed_quietLines]
  rfl

theorem State.endSettle_quietLines (s : State) : s.quietLines.endSettle = s.endSettle.quietLines := by
  unfold State.endSettle
  dsimp only
  rw [apply_ite State.quietLines]
  rfl

theorem State.testSettle_quietLines (s : State) : s.quietLines.testSettle = s.testSettle.quietLines := by
  unfold State.testSettle
  rw [apply_ite State.quietLines, ← State.endSettle_quietLines]
  rfl

theorem State.endMeasure_quietLines (s : State) : s.quietLines.endMeasure = s.endMeasure.quietLines := by
  unfold State.endMeasure
  dsimp only
  rw [apply_ite State.quietLines]
  rfl

theorem State.testMeasure_quietLines (s : State) : s.quietLines.testMeasure = s.testMeasure.quietLines := by
  unfold State.testMeasure
  rw [apply_ite State.quietLines, ← State.endMeasure_quietLines]
  rfl

theorem State.startEvaluation_quietLines (s : State) : s.quietLines.startEvaluation = s.startEvaluation.quietLines := by
  unfold State.startEvaluation State.usedIdFrom
  dsimp only
  rw [State.quietLines_links]
  split <;> rfl

theorem State.testReduce_quietLines (s : State) : s.quietLines.testReduce = s.testReduce.quietLines := by
  unfold State.testReduce
  rw [apply_ite State.quietLines, ← State.startEvaluation_quietLines]
  rfl

theorem State.testDeadline_quietLines (o : HaltOrigin) (s : State) :
    s.quietLines.testDeadline o = (s.testDeadline o).quietLines := by
  unfold State.testDeadline
  rw [apply_ite State.quietLines]
  rfl

theorem State.phaseTest_quietLines (fell : Bool) (s : State) :
    s.quietLines.phaseTest fell = (s.phaseTest fell).quietLines := by
  unfold State.phaseTest
  rw [State.quietLines_seq]
  split
  case h_1 => exact s.testArming_quietLines
  case h_2 => rw [apply_ite State.quietLines, State.allLost_quietLines, State.testSettle_quietLines]
  case h_3 => rw [apply_ite State.quietLines, State.allLost_quietLines, State.testMeasure_quietLines]
  case h_4 => rw [State.testReduce_quietLines, State.testDeadline_quietLines]
  case h_5 => exact s.testDeadline_quietLines .aborting
  all_goals rfl

theorem State.marker_quietLines (s : State) : s.marker.quietLines =
    State.phaseTest (0 < s.activeCount && s.pulse.bookkeep.quietLines.activeCount == 0)
      s.pulse.bookkeep.quietLines.emptyWindows :=
  (State.phaseTest_quietLines _ s.pulse.bookkeep.emptyWindows).symm

/-- What stood on the outputs before the marker does not matter, for the pulse and the drive overwrite them (R58). -/
theorem State.marker_of_quietLines (s : State) : s.quietLines.marker.quietLines = s.marker.quietLines := by
  have hbook : s.quietLines.pulse.bookkeep.quietLines = s.pulse.bookkeep.quietLines := by
    rw [← State.bookkeep_quietLines, ← State.bookkeep_quietLines]
    rfl
  rw [State.marker_quietLines, State.marker_quietLines, hbook]
  rfl

theorem State.marker_lines (s : State) : s.marker.lines = s.pulse.lines := by
  simp [State.marker]

/-- An expiry of the running timer that is a marker: the test of the sweep state on the part `b` as the bookkeeping leaves it,
told whether the bookkeeping brought the ACTIVE count to 0 (R57, R58). -/
theorem exec_epochTimerExpiry_marker {s b : State} {period : Nat} (hrun : s.seq.timer = .running period)
    (hhold : s.seq.hold = 0) (hepoch : s.seq.epoch ≠ 65535) (hb : b = s.pulse.bookkeep.emptyWindows) :
    exec .epochTimerExpiry s =
      .next (State.driven true (b.phaseTest (0 < s.activeCount && b.activeCount == 0))) := by
  subst hb
  have hexpire : s.quietLines.expire = s.quietLines.marker := by
    simp [State.expire, hhold, hepoch]
  have hdriven : s.quietLines.marker.driveAttn = State.driven true s.quietLines.marker := by
    simp only [State.driveAttn, State.driven, State.marker_lines]
    rfl
  calc exec .epochTimerExpiry s
      = .next s.quietLines.expire.driveAttn := by
        simp only [exec, execEpochTimerExpiry, State.quietLines_seq, hrun]
    _ = .next (State.driven true s.quietLines.marker.quietLines) := by
        rw [hexpire, hdriven]
        rfl
    _ = .next (State.driven true s.marker.quietLines) := by rw [State.marker_of_quietLines]

-- ==== ARMING (R62, R63) ====

/-- Outside SETTLE, MEASURE, REDUCE and ABORTING a marker books nothing (R98). -/
theorem State.bookkeep_eq_self {s : State} (h : s.seq.sweep.books = false) : s.bookkeep = s := by
  simp [State.bookkeep, h]

theorem SlotRecord.endArming_eq (r : SlotRecord) : r.endArming =
    if r.state = .ready then { r with state := .active, activated := true }
    else if r.state = .enrolled ∧ r.participating = true then { r with state := .excluded }
    else r := by
  unfold SlotRecord.endArming
  cases hr : r.state <;> simp

theorem State.unreadyCount_eq_zero {s : State} :
    s.unreadyCount = 0 ↔ ∀ i, ¬ ((s.slots.get i).state = .enrolled ∧ (s.slots.get i).participating = true) := by
  rw [State.unreadyCount, Table.count_eq_zero_iff_forall (by decide)]
  simp

theorem State.readyCount_pos {s : State} : 0 < s.readyCount ↔ ∃ i, (s.slots.get i).state = .ready := by
  rw [State.readyCount, Table.count_pos_iff_exists (by decide)]
  simp

section Arming

variable {s : State}

theorem State.phaseTest_arming (h : s.seq.sweep = .arming) (fell : Bool) : s.phaseTest fell = s.testArming := by
  simp [State.phaseTest, h]

theorem State.testArming_waits (h : ¬ (s.unreadyCount = 0 ∧ 0 < s.readyCount)) (ha : s.seq.epoch ≠ s.timing.arming) :
    s.testArming = s :=
  if_neg (not_or.2 ⟨h, ha⟩)

theorem State.testArming_armed (hr : 0 < s.readyCount) (h : s.unreadyCount = 0 ∨ s.seq.epoch = s.timing.arming) :
    s.testArming = s.armed :=
  (if_pos (h.imp_left fun hu => ⟨hu, hr⟩)).trans (if_pos hr)

theorem State.testArming_noneReady (hr : ¬ 0 < s.readyCount) (h : s.seq.epoch = s.timing.arming) :
    s.testArming = (s.setCause .noneReady).enterTerminal .aborted :=
  (if_pos (Or.inr h)).trans (if_neg hr)

theorem State.armed_settle (h : s.timing.stopArming = false) : s.armed =
    { s with
      slots := s.slots.map SlotRecord.endArming
      seq := { s.seq with sweep := .settle, s0 := some s.seq.epoch } } := by
  simp [State.armed, h]

theorem State.armed_stopped (h : s.timing.stopArming = true) : s.armed = State.enterStopped .settle
    { s with slots := s.slots.map SlotRecord.endArming, seq := { s.seq with s0 := some s.seq.epoch } } := by
  simp [State.armed, h]

end Arming

/-- Settles O39: no bookkeeping in ARMING, so that the test of ARMING decides on the part as pulsed, by whether a participating
slot is still ENROLLED, whether one is READY, and whether the marker is A. -/
theorem armingEndsAtItsMarker : Obligations.ArmingEndsAtItsMarker := by
  rintro s p period allReady someReady armed _ hrun hhold hepoch hw rfl hall hsome harmed rfl
  obtain rfl : armed = s.slots.map SlotRecord.endArming :=
    harmed.trans (congrArg (Table.map · s.slots) (funext SlotRecord.endArming_eq).symm)
  rw [← State.unreadyCount_eq_zero] at hall
  rw [← State.readyCount_pos] at hsome
  have hbook : s.pulse.bookkeep = s.pulse := State.bookkeep_eq_self (by rw [show s.pulse.seq.sweep = .arming from hw]; rfl)
  have hmarker : exec .epochTimerExpiry s = .next (s.pulse.emptyWindows.testArming.driven true) := by
    rw [exec_epochTimerExpiry_marker hrun hhold hepoch rfl, hbook, State.phaseTest_arming (s := s.pulse.emptyWindows) hw]
  rw [hall, hsome, hmarker]
  refine ⟨fun hwait ha => ?_, fun hr hend hstop => ?_, fun hr hend hstop => ?_, fun hr ha => ?_⟩
  · rw [State.testArming_waits (s := s.pulse.emptyWindows) hwait ha]
    rfl
  · rw [State.testArming_armed (s := s.pulse.emptyWindows) hr hend, State.armed_settle (s := s.pulse.emptyWindows) hstop]
    rfl
  · rw [State.testArming_armed (s := s.pulse.emptyWindows) hr hend, State.armed_stopped (s := s.pulse.emptyWindows) hstop]
    rfl
  · rw [State.testArming_noneReady (s := s.pulse.emptyWindows) hr ha]
    rfl

-- ==== SETTLE and MEASURE (R64–R66, R72) ====

/-- The bookkeeping brought the ACTIVE count to 0: some slot was ACTIVE before and none is after (R34, R72). -/
theorem activeCount_fell_iff {s b : State} : (decide (0 < s.activeCount) && b.activeCount == 0) = true ↔
    (∃ i, (s.slots.get i).state = .active) ∧ ∀ i, (b.slots.get i).state ≠ .active := by
  rw [Bool.and_eq_true, decide_eq_true_eq, beq_iff_eq, State.activeCount, State.activeCount,
    Table.count_pos_iff_exists (by decide), Table.count_eq_zero_iff_forall (by decide)]
  simp

/-- Every endpoint of the settle set is settled (R64, R116). -/
theorem State.allSettled_iff {s : State} : s.allSettled = true ↔
    ∀ e, e < 768 → (s.slots.get (e / 32)).state = .active → e % 32 < (s.slots.get (e / 32)).laneCount →
      (s.observations.get e).planned.isSome = true → (s.observations.get e).settled.isSome = true := by
  rw [State.allSettled, Option.isNone_iff_eq_none, Table.first_eq_none]
  simp [inSettleSet]

section Settle

variable {s : State}

theorem State.phaseTest_fell (h : s.seq.sweep = .settle ∨ s.seq.sweep = .measure) :
    s.phaseTest true = s.abortSweep .allLost := by
  rcases h with h | h <;> simp [State.phaseTest, State.allLost, SweepState.abortsWhenLost, h]

theorem State.phaseTest_settle (h : s.seq.sweep = .settle) : s.phaseTest false = s.testSettle := by
  simp [State.phaseTest, h]

theorem State.phaseTest_measure (h : s.seq.sweep = .measure) : s.phaseTest false = s.testMeasure := by
  simp [State.phaseTest, h]

theorem State.testSettle_ends
    (h : s.allSettled = true ∨ s.seq.s0 = some (s.seq.epoch - s.timing.window) ∧ s.timing.window ≤ s.seq.epoch) :
    s.testSettle = s.endSettle := by
  refine if_pos (h.imp_right ?_)
  rintro ⟨hs0, hle⟩
  rw [hs0, Option.map_some, Nat.sub_add_cancel hle]

theorem State.testSettle_waits (h : ¬ s.allSettled = true)
    (hs0 : ∀ a, s.seq.s0 = some a → a + s.timing.window ≠ s.seq.epoch) : s.testSettle = s := by
  refine if_neg (not_or.2 ⟨h, fun hmap => ?_⟩)
  obtain ⟨a, ha, hsum⟩ := Option.map_eq_some_iff.1 hmap
  exact hs0 a ha hsum

theorem State.endSettle_measure (h : s.timing.stopSettle = false) :
    s.endSettle = { s with seq := { s.seq with sweep := .measure, m0 := some s.seq.epoch } } := by
  simp [State.endSettle, h]

theorem State.endSettle_stopped (h : s.timing.stopSettle = true) :
    s.endSettle = State.enterStopped .measure { s with seq := { s.seq with m0 := some s.seq.epoch } } := by
  simp [State.endSettle, h]

theorem State.testMeasure_ends {m : Nat} (hm : s.seq.m0 = some m) (h : m + s.timing.measure = s.seq.epoch) :
    s.testMeasure = s.endMeasure :=
  if_pos (by rw [hm, Option.map_some, h])

theorem State.testMeasure_waits (h : ∀ m, s.seq.m0 = some m → m + s.timing.measure ≠ s.seq.epoch) :
    s.testMeasure = s := by
  refine if_neg fun hmap => ?_
  obtain ⟨m, hm, hsum⟩ := Option.map_eq_some_iff.1 hmap
  exact h m hm hsum

theorem State.endMeasure_reduce (h : s.timing.stopMeasure = false) : s.endMeasure =
    { s with
      seq := { s.seq with
        sweep := .reduce, reduceStart := some s.seq.epoch, closing := some s.seq.epoch, hold := 0,
        quietCall := .pending, quietDeadline := some (s.seq.epoch + 4) }
      slots := s.slots.map SlotRecord.callQuiet } := by
  simp [State.endMeasure, State.startQuietCall, h]

theorem State.endMeasure_stopped (h : s.timing.stopMeasure = true) : s.endMeasure = State.enterStopped .reduce
    { s with
      seq := { s.seq with reduceStart := some s.seq.epoch, closing := some s.seq.epoch, hold := 0 } } := by
  simp [State.endMeasure, h]

end Settle

/-- Settles O40: the fall of the ACTIVE count takes the place of the test of SETTLE or MEASURE, which decides otherwise. -/
theorem settleAndMeasureEnd : Obligations.SettleAndMeasureEnd := by
  intro s b period fell allSettled called hrun hhold hepoch hb hfell hall hcalled
  have hseq : b.seq = s.pulse.seq := by simp [hb]
  have htiming : b.timing = s.timing := by simp [hb]
  obtain rfl : called = b.slots.map SlotRecord.callQuiet := hcalled.trans (map_callQuiet b.slots).symm
  rw [← activeCount_fell_iff] at hfell
  rw [← State.allSettled_iff] at hall
  have hmarker := exec_epochTimerExpiry_marker hrun hhold hepoch hb
  have htest (hf : ¬ fell) {t : State} (ht : b.phaseTest false = t) :
      exec .epochTimerExpiry s = .next (t.driven true) := by
    rw [hmarker, Bool.eq_false_of_not_eq_true (mt hfell.2 hf), ht]
  have hsweep : b.seq.sweep = s.seq.sweep := by rw [hseq]; rfl
  have hs0 : b.seq.s0 = s.seq.s0 := by rw [hseq]; rfl
  have hm0 : b.seq.m0 = s.seq.m0 := by rw [hseq]; rfl
  rw [← hsweep, ← hs0, ← hm0, ← htiming, hall]
  refine ⟨fun hw hf => ?_, fun hw hf => ⟨fun hend => ⟨fun hstop => ?_, fun hstop => ?_⟩, fun hset hwindow => ?_⟩,
    fun hw hf => ⟨fun m hm hend => ⟨fun hstop => ?_, fun hstop => ?_⟩, fun hgoes => ?_⟩⟩
  · rw [hmarker, hfell.1 hf, State.phaseTest_fell hw]
  all_goals apply htest hf
  · rw [State.phaseTest_settle hw, State.testSettle_ends hend, State.endSettle_measure hstop]
  · rw [State.phaseTest_settle hw, State.testSettle_ends hend, State.endSettle_stopped hstop]
    rfl
  · rw [State.phaseTest_settle hw, State.testSettle_waits hset hwindow]
  · rw [State.phaseTest_measure hw, State.testMeasure_ends hm hend, State.endMeasure_reduce hstop]
  · rw [State.phaseTest_measure hw, State.testMeasure_ends hm hend, State.endMeasure_stopped hstop]
    rfl
  · rw [State.phaseTest_measure hw, State.testMeasure_waits hgoes]

-- ==== REDUCE and ABORTING (R67, R75) ====

/-- With a link in use, the lowest id in use is found (R140). -/
theorem State.usedIdFrom_zero {s : State} (h : ∃ k, s.links.get k ≠ none) :
    ∃ k, s.usedIdFrom 0 = some k ∧ s.links.get k ≠ none ∧ ∀ j, j < k → s.links.get j = none := by
  cases hk : s.usedIdFrom 0 with
  | none =>
    obtain ⟨k, hused⟩ := h
    have hlt : k < 512 := Nat.lt_of_not_le fun hle => hused (Table.get_outside s.links hle)
    have hfree := Table.first_eq_none.1 hk k hlt
    simp [hused] at hfree
  | some k =>
    obtain ⟨-, hused, hlow⟩ := Table.first_eq_some hk
    exact ⟨k, rfl, by simpa [Option.ne_none_iff_isSome] using hused, fun j hj => by simpa using hlow j hj⟩

theorem State.startEvaluation_links {s : State} {k : Nat} (h : s.usedIdFrom 0 = some k) : s.startEvaluation =
    { s with
      seq := { s.seq with evaluation := .running }
      cursor := { s.cursor with stage := .links, position := some k } } := by
  have hk : State.usedIdFrom { s with seq := { s.seq with evaluation := .running } } 0 = some k := h
  simp only [State.startEvaluation, hk]

/-- Some slot owes quiet (R36, R75). -/
theorem State.someOwing_iff {s : State} : s.someOwing = true ↔
    ∃ i, i < 24 ∧ (s.slots.get i).quietOwed = true ∧ (s.slots.get i).quietAcked = false := by
  simp only [State.someOwing, List.any_eq_true, Table.mem_entries]
  constructor
  · rintro ⟨_, ⟨i, hi, rfl⟩, howing⟩
    exact ⟨i, hi, by simpa [SlotRecord.owing] using howing⟩
  · rintro ⟨i, hi, howing⟩
    exact ⟨_, ⟨i, hi, rfl⟩, by simpa [SlotRecord.owing] using howing⟩

section Reduce

variable {s : State}

theorem State.phaseTest_reduce (h : s.seq.sweep = .reduce) (fell : Bool) :
    s.phaseTest fell = s.testReduce.testDeadline .reduce := by
  simp [State.phaseTest, h]

theorem State.phaseTest_aborting (h : s.seq.sweep = .aborting) (fell : Bool) :
    s.phaseTest fell = s.testDeadline .aborting := by
  simp [State.phaseTest, h]

theorem State.testDeadline_passed {o : HaltOrigin}
    (h : ¬ (s.seq.quietCall = .pending ∧ s.seq.quietDeadline = some s.seq.epoch ∧ s.someOwing = true)) :
    s.testDeadline o = s :=
  if_neg h

theorem State.testDeadline_missed {o : HaltOrigin}
    (h : s.seq.quietCall = .pending ∧ s.seq.quietDeadline = some s.seq.epoch ∧ s.someOwing = true) :
    s.testDeadline o = s.enterHalted o :=
  if_pos h

/-- The evaluation start touches the cursor and the sequencer's record of the pass, and nothing else (R67). -/
theorem State.testReduce_evaluation (s : State) :
    ∃ c v, s.testReduce = { s with cursor := c, seq := { s.seq with evaluation := v } } := by
  unfold State.testReduce State.startEvaluation
  split
  · dsimp only
    split <;> exact ⟨_, _, rfl⟩
  · exact ⟨_, _, rfl⟩

/-- With links in use, the evaluation starts one marker after reduce start, at the lowest of them (R67, R140). -/
theorem State.testReduce_eq {e : State} {n : Nat} (hn : s.seq.epoch = n + 1)
    (hstart : s.seq.reduceStart = some n →
      (∀ k, s.links.get k ≠ none → (∀ j, j < k → s.links.get j = none) → e =
        { s with
          seq := { s.seq with evaluation := .running }
          cursor := { s.cursor with stage := .links, position := some k } }) ∧
      ∃ k, s.links.get k ≠ none)
    (hwait : s.seq.reduceStart ≠ some n → e = s) : s.testReduce = e := by
  by_cases hdue : s.seq.reduceStart = some n
  · obtain ⟨hlowest, hused⟩ := hstart hdue
    obtain ⟨k, hfirst, hk, hlow⟩ := State.usedIdFrom_zero hused
    have hstarts : s.testReduce = s.startEvaluation := if_pos (by rw [hdue, hn, Option.map_some])
    rw [hstarts, State.startEvaluation_links hfirst, hlowest k hk hlow]
  · rw [hwait hdue]
    refine if_neg fun hmap => hdue ?_
    obtain ⟨m, hm, hsum⟩ := Option.map_eq_some_iff.1 hmap
    rw [hm, Nat.succ.inj (hsum.trans hn)]

end Reduce

/-- Settles O41: the test of REDUCE is the evaluation start and then the deadline, that of ABORTING the deadline alone, and the
evaluation start leaves what the deadline reads. -/
theorem reduceMarkers : Obligations.ReduceMarkers := by
  intro s b e period origin late hrun hhold hepoch hb hwork hlate
  have hseq : b.seq = s.pulse.seq := by simp [hb]
  have hlinks : b.links = s.links := by simp [hb, State.pulse]
  have hsweep : b.seq.sweep = s.seq.sweep := by rw [hseq]; rfl
  have hstart : b.seq.reduceStart = s.seq.reduceStart := by rw [hseq]; rfl
  have hquiet : b.seq.quietCall = s.seq.quietCall := by rw [hseq]; rfl
  have hdeadline : b.seq.quietDeadline = s.seq.quietDeadline := by rw [hseq]; rfl
  rw [← hsweep, ← hstart, ← hlinks] at hwork
  rw [← State.someOwing_iff, ← hquiet, ← hdeadline] at hlate
  have hphase : (∀ fell, b.phaseTest fell = e.testDeadline origin) ∧
      ∃ c v, e = { b with cursor := c, seq := { b.seq with evaluation := v } } := by
    rcases hwork with ⟨hw, rfl, hstarts, hwaits⟩ | ⟨hw, rfl, rfl⟩
    · have he : b.testReduce = e := State.testReduce_eq (by rw [hseq]; rfl) hstarts hwaits
      exact ⟨fun fell => by rw [State.phaseTest_reduce hw, he], he ▸ b.testReduce_evaluation⟩
    · exact ⟨State.phaseTest_aborting hw, _, _, rfl⟩
  obtain ⟨htest, c, v, he⟩ := hphase
  have hdue : late ↔ e.seq.quietCall = .pending ∧ e.seq.quietDeadline = some e.seq.epoch ∧ e.someOwing = true := by
    subst he
    exact hlate
  have howing : b.owingSet = e.owingSet := by rw [he]; rfl
  rw [exec_epochTimerExpiry_marker hrun hhold hepoch hb, htest, howing]
  refine ⟨fun hnot => ?_, fun hyes => ?_⟩
  · rw [State.testDeadline_passed (mt hdue.2 hnot)]
  · rw [State.testDeadline_missed (hdue.1 hyes)]
    rfl

end Sys2Proof.Machine
end

section
/-!
QUIET: which slot the source has, what completing the quiet call brings, and the answer (R36, R74, R102).
-/

namespace Sys2Proof.Machine

-- ==== The slot by its probe source id (R36) ====

theorem State.probeSlotOf_none {s : State} {src : SourceId} (h : ∀ j, (s.slots.get j).source ≠ some src) :
    s.probeSlotOf src = none :=
  Table.first_eq_none.2 fun j _ => beq_false_of_ne (h j)

theorem SlotRecord.holds_of_source {r : SlotRecord} {src : SourceId} (h : r.source = some src) : r.holds src = true := by
  simp [SlotRecord.holds, h]

/-- With each source in at most one record, the slot whose probe source id it is is the slot found (R36). -/
theorem State.SourcesOk.probeSlotOf_eq {s : State} (h : s.SourcesOk) {src : SourceId} {slot : Nat}
    (ha : (s.slots.get slot).source = some src) : s.probeSlotOf src = some slot :=
  have hholds := SlotRecord.holds_of_source ha
  first_eq_of_unique (State.lt_of_holds hholds) (beq_iff_eq.2 ha) fun j hj =>
    h.one j slot src (SlotRecord.holds_of_source (beq_iff_eq.1 hj)) hholds

-- ==== The end of the quiet call (R74) ====

section QuietAnswered

variable {s : State}

theorem State.quietAnswered_owing (h : s.someOwing = true) : s.quietAnswered = s :=
  if_pos h

variable (h : ¬ s.someOwing = true)
include h

/-- ABORTING ends in ABORTED, and REDUCE with its evaluation complete in DONE (R74). -/
theorem State.quietAnswered_ends {t : SweepState} (ht : (s.seq.sweep = .aborting ∧ t = .aborted) ∨
      (s.seq.sweep = .reduce ∧ s.seq.evaluation = .complete ∧ t = .done)) :
    s.quietAnswered = State.enterTerminal t { s with seq := { s.seq with quietCall := .complete } } := by
  rcases ht with ⟨hw, rfl⟩ | ⟨hw, he, rfl⟩
  · simp [State.quietAnswered, h, hw]
  · simp [State.quietAnswered, h, hw, he]

/-- Elsewhere the sweep goes on as it was (R74). -/
theorem State.quietAnswered_goesOn (ha : s.seq.sweep ≠ .aborting)
    (hr : ¬ (s.seq.sweep = .reduce ∧ s.seq.evaluation = .complete)) :
    s.quietAnswered = { s with seq := { s.seq with quietCall := .complete } } := by
  rw [State.quietAnswered, if_neg h]
  dsimp only
  split
  · next hw => exact absurd hw ha
  · next hw => exact if_neg fun he => hr ⟨hw, he⟩
  · rfl

end QuietAnswered

-- ==== The answer to QUIET (R102) ====

theorem State.FromProbe.exec_quiet {s t : State} {rq : Requester} (h : s.FromProbe rq) {r : Result} {p : List Byte}
    (hb : quietBody rq.source s.quietLines = { state := t.quietLines, result := r, payload := p }) :
    exec (.quiet rq) s = .next (t.answered rq r p) :=
  congrArg Host.Outcome.next (h.deliver_eq (by decide) hb)

theorem quietAnswer_eq (acknowledged : Bool) (s : State) :
    quietAnswer acknowledged s = accept [if acknowledged then 1 else 0, byte s.seq.quietCall.code] s := by
  rw [quietAnswer, be_one]
  rfl

theorem SlotRecord.owing_iff {r : SlotRecord} : r.owing = true ↔ r.quietOwed = true ∧ r.quietAcked = false := by
  simp [SlotRecord.owing]

theorem quietBody_noSlot {src : SourceId} {s : State} (h : s.probeSlotOf src = none) :
    quietBody src s = accept [0, byte s.seq.quietCall.code] s := by
  simp [quietBody, h, quietAnswer_eq]

section Slot

variable {src : SourceId} {s : State} {slot : Nat} (h : s.probeSlotOf src = some slot)
include h

theorem quietBody_notOwing
    (hn : s.seq.quietCall ≠ .pending ∨ (s.slots.get slot).quietOwed = false ∨ (s.slots.get slot).quietAcked = true) :
    quietBody src s = accept [0, byte s.seq.quietCall.code] s := by
  have hnot : ¬ (s.seq.quietCall = .pending ∧ (s.slots.get slot).owing = true) := by
    rw [SlotRecord.owing_iff]
    rintro ⟨hq, howed, hacked⟩
    simp [hq, howed, hacked] at hn
  simp [quietBody, h, hnot, quietAnswer_eq]

/-- The reply carries the call state that the acknowledgement leads to. -/
theorem quietBody_acknowledged (hq : s.seq.quietCall = .pending) (howing : (s.slots.get slot).owing = true) {t : State}
    (ht : (s.acknowledge slot).quietAnswered = t) : quietBody src s = accept [1, byte t.seq.quietCall.code] t := by
  simp [quietBody, h, hq, howing, ht, quietAnswer_eq]

end Slot

/-- Settles O47: without an owing slot of the source the call state alone is answered; else the slot is acknowledged, and
whether another slot still owes decides if the call completes with what R74 gives. -/
theorem quietAnswers : Obligations.QuietAnswers := by
  rintro s rq call hrq hcall
  obtain rfl : call = byte s.seq.quietCall.code := by
    rw [hcall]
    cases s.seq.quietCall <;> rfl
  refine ⟨fun hnone => hrq.exec_quiet (quietBody_noSlot (s := s.quietLines) (State.probeSlotOf_none hnone)), ?_⟩
  rintro slot _ _ last hsources rfl hsource rfl hlast
  have hslot : s.quietLines.probeSlotOf rq.source = some slot := hsources.probeSlotOf_eq hsource
  have hmore : ¬ last ↔ (s.quietLines.acknowledge slot).someOwing = true := by
    rw [State.someOwing_iff, hlast]
    push Not
    rfl
  have hanswer (hq : s.seq.quietCall = .pending) (howed : (s.slots.get slot).quietOwed = true)
      (hacked : (s.slots.get slot).quietAcked = false) {t : State}
      (ht : (s.quietLines.acknowledge slot).quietAnswered = t.quietLines) :
      exec (.quiet rq) s = .next (t.answered rq .ok [1, byte t.seq.quietCall.code]) :=
    hrq.exec_quiet (quietBody_acknowledged hslot hq (SlotRecord.owing_iff.2 ⟨howed, hacked⟩) ht)
  refine ⟨fun hn => hrq.exec_quiet (quietBody_notOwing hslot hn), fun hq howed hacked hnot => ?_,
    fun hq howed hacked hl => ?_⟩
  · have hstay := hanswer hq howed hacked (t := s.acknowledge slot) (State.quietAnswered_owing (hmore.1 hnot))
    rwa [State.acknowledge_seq, hq] at hstay
  · have hdone : ¬ (s.quietLines.acknowledge slot).someOwing = true := fun hsome => hmore.2 hsome hl
    exact ⟨fun t ht => hanswer hq howed hacked (State.quietAnswered_ends hdone ht),
      fun ha hr => hanswer hq howed hacked (State.quietAnswered_goesOn hdone ha hr)⟩

end Sys2Proof.Machine
end

section
/-!
The Observation Table: what a lane record does to a settled observation record (R106, R109, R110).
-/

namespace Sys2Proof

-- ==== A write to a table that may fall outside it ====

/-- After a write each entry stands as it was, but for the one written, if the table has it. -/
theorem Table.get_set_cases {α : Type} [Inhabited α] {n : Nat} (t : Table α n) (i j : Nat) (a : α) :
    (t.set i a).get j = t.get j ∨ (j = i ∧ (t.set i a).get j = a) := by
  by_cases hij : j = i
  · subst hij
    by_cases hj : j < n
    · exact .inr ⟨rfl, Table.get_set_same t hj a⟩
    · exact .inl (by rw [Table.set_outside t (Nat.le_of_not_lt hj)])
  · exact .inl (Table.get_set_ne t (Ne.symm hij) a)

end Sys2Proof

namespace Sys2Proof.Machine

-- ==== The parts of a lane record's effect (R106, R109, R110) ====

theorem Observation.addUnits_eq (n : Nat) (o : Observation) :
    o.addUnits n =
      { o with
        units := min (o.units + n) (2 ^ 40 - 1)
        unitsSaturated := o.unitsSaturated || decide (2 ^ 40 - 1 < o.units + n) } := by
  unfold Observation.addUnits
  split
  · rename_i h
    rw [Nat.min_eq_right (Nat.le_of_lt h), decide_eq_true h, Bool.or_true]
  · rename_i h
    rw [Nat.min_eq_left (Nat.le_of_not_lt h), decide_eq_false h, Bool.or_false]

theorem Observation.addErrors_eq (n : Nat) (o : Observation) :
    o.addErrors n =
      { o with
        errors := min (o.errors + n) (2 ^ 32 - 1)
        errorsSaturated :=
          o.errorsSaturated || decide (n = 2 ^ 24 - 1) || decide (2 ^ 32 - 1 < o.errors + n) } := by
  unfold Observation.addErrors
  dsimp only
  split
  · rename_i h
    rw [Nat.min_eq_right (Nat.le_of_lt h), decide_eq_true h, Bool.or_true]
  · rename_i h
    rw [Nat.min_eq_left (Nat.le_of_not_lt h), decide_eq_false h, Bool.or_false, beq_eq_decide]

theorem Observation.addSkew_eq (z : Int) (o : Observation) :
    o.addSkew z =
      { o with
        skewSum := if z = -2048 then o.skewSum else o.skewSum + z
        skewCount := if z = -2048 then o.skewCount else o.skewCount + 1 } := by
  unfold Observation.addSkew
  split <;> rfl

/-- The skew sample is the low 12 bits as a two's complement number (R87). -/
theorem skewSample_eq (h : Half) :
    skewSample h =
      if h.toNat % 4096 < 2048 then (h.toNat % 4096 : Int) else (h.toNat % 4096 : Int) - 4096 := by
  rw [skewSample, BitVec.toInt_eq_toNat_cond, BitVec.extractLsb'_toNat]
  simp only [Nat.shiftRight_zero]
  split <;> split <;> omega

/-- A skew sample has 12 bits. -/
theorem skewSample_range (h : Half) : -2048 ≤ skewSample h ∧ skewSample h ≤ 2047 := by
  rw [skewSample_eq]
  split <;> omega

/-- Raising the seen flags leaves what the record settled on (R106). -/
theorem Observation.see_settled (lock : Bool) (c : Classified) (o : Observation) :
    (o.see lock c).settled = o.settled := rfl

section Apply

variable {o : Observation} (generation : Nat) (r : LaneRecord)

theorem Observation.apply_of_settled {x : Settled} (h : o.settled = some x) (measure : Bool) :
    o.apply generation measure r = (o.see r.lock (classify generation r.lock r.raw)).judge measure r x.word := by
  simp [Observation.apply, Observation.see_settled, h]

theorem Observation.apply_of_unsettled (h : o.settled = none) (measure : Bool) :
    o.apply generation measure r =
      if measure then o.see r.lock (classify generation r.lock r.raw)
      else (o.see r.lock (classify generation r.lock r.raw)).track r.raw (classify generation r.lock r.raw) := by
  simp [Observation.apply, Observation.see_settled, h]

end Apply

theorem Observation.judge_match {r : LaneRecord} {word : Word} (hl : r.lock = true) (hr : r.raw = word) (measure : Bool)
    (o : Observation) : o.judge measure r word = if measure then o.accumulate r else o :=
  if_pos ⟨hl, hr⟩

theorem Observation.judge_nonmatch {r : LaneRecord} {word : Word} (h : ¬ (r.lock = true ∧ r.raw = word)) (measure : Bool)
    (o : Observation) : o.judge measure r word = o.drop :=
  if_neg h

-- ==== A lane record in the state (R96, R108) ====

/-- A settled record joins no hearers list again, so the lane record changes the observation record alone. -/
theorem State.applyRecord_of_settled {s : State} {rx : Nat} {x : Settled} (h : (s.observations.get rx).settled = some x)
    (measure : Bool) (r : LaneRecord) :
    s.applyRecord measure rx r =
      { s with
        observations := s.observations.set rx
          (((s.observations.get rx).see r.lock (classify s.generation r.lock r.raw)).judge measure r x.word) } := by
  have hjoins (after : Observation) : joins (s.observations.get rx) after = none := by simp [joins, h]
  unfold State.applyRecord
  dsimp only
  rw [hjoins, Observation.apply_of_settled _ _ h]
  rfl

/-- Settles O46: a settled record is judged by the match test, and a match in a MEASURE epoch adds each reading by the
equation of its total. -/
theorem matchesAccumulate : Obligations.MatchesAccumulate := by
  rintro s rx r _ seen x _ m skew _ rfl hsettled rfl hskew hseen
  obtain rfl : seen = (s.observations.get rx).see r.lock (classify s.generation r.lock r.raw) := by
    rw [hseen]
    cases classify s.generation r.lock r.raw <;> rfl
  obtain rfl : skew = skewSample r.skew := hskew.trans (skewSample_eq r.skew).symm
  simp only [State.applyRecord_of_settled hsettled]
  refine ⟨fun hno => ?_, fun hlock hraw => ?_, fun hlock hraw => ?_⟩
  · rw [Observation.judge_nonmatch hno]
    rfl
  · rw [Observation.judge_match hlock hraw]
    rfl
  · rw [Observation.judge_match hlock hraw, if_pos rfl, Observation.accumulate, Observation.addUnits_eq,
      Observation.addErrors_eq, Observation.addSkew_eq]
    rfl

end Sys2Proof.Machine
end

section
/-!
The laws of the observation table: every step keeps every record sound (R104, R112, R114), and neither total falls
except when the table is cleared (R112).
-/

namespace Sys2Proof.Machine

-- ==== A record that follows a record ====

/-- What may become of an observation record in one event: a sound record stays sound and its totals do not fall
(R112), and what a record settled on stays (R108). -/
structure Observation.Follows (o o' : Observation) : Prop where
  sound   : o.Sound → o'.Sound
  units   : o.Sound → o.units ≤ o'.units
  errors  : o.Sound → o.errors ≤ o'.errors
  settled : ∀ x, o.settled = some x → o'.settled = some x

theorem Observation.Follows.refl (o : Observation) : o.Follows o :=
  ⟨id, fun _ => Nat.le_refl _, fun _ => Nat.le_refl _, fun _ => id⟩

theorem Observation.Follows.trans {o p q : Observation} (h : o.Follows p) (h' : p.Follows q) : o.Follows q where
  sound hs := h'.sound (h.sound hs)
  units hs := (h.units hs).trans (h'.units (h.sound hs))
  errors hs := (h.errors hs).trans (h'.errors (h.sound hs))
  settled x hx := h'.settled x (h.settled x hx)

/-- A cleared record is sound, with or without a planned link (R123). -/
theorem Observation.sound_cleared (planned : Option PlannedLane) : ({ planned := planned } : Observation).Sound where
  run := by simp
  candidate := by simp
  settled _ h := absurd h (by simp)
  unsettled _ := by simp
  dropouts := by simp
  gaps := by simp
  units := by simp
  errors := by simp
  skew := by simp

-- ==== Seen flags, dropouts and readings only make a record follow (R106, R109, R110) ====

theorem Observation.see_follows (lock : Bool) (c : Classified) (o : Observation) : o.Follows (o.see lock c) :=
  ⟨fun h => { h with run := h.run }, fun _ => Nat.le_refl _, fun _ => Nat.le_refl _, fun _ => id⟩

theorem Observation.drop_follows (o : Observation) : o.Follows o.drop :=
  ⟨fun h => { h with dropouts := Nat.min_le_right _ _ }, fun _ => Nat.le_refl _, fun _ => Nat.le_refl _, fun _ => id⟩

theorem Observation.addUnits_follows (n : Nat) (o : Observation) : o.Follows (o.addUnits n) := by
  rw [Observation.addUnits_eq]
  exact
    ⟨fun h => { h with units := Nat.min_le_right _ _ }, fun h => Nat.le_min.2 ⟨Nat.le_add_right _ _, h.units⟩,
      fun _ => Nat.le_refl _, fun _ => id⟩

theorem Observation.addErrors_follows (n : Nat) (o : Observation) : o.Follows (o.addErrors n) := by
  rw [Observation.addErrors_eq]
  exact
    ⟨fun h => { h with errors := Nat.min_le_right _ _ }, fun _ => Nat.le_refl _,
      fun h => Nat.le_min.2 ⟨Nat.le_add_right _ _, h.errors⟩, fun _ => id⟩

/-- A sample that is taken lies in −2047..2047, since −2048 is no sample (R110). -/
theorem Observation.addSkew_follows {z : Int} (hz : -2048 ≤ z ∧ z ≤ 2047) (o : Observation) : o.Follows (o.addSkew z) := by
  unfold Observation.addSkew
  split
  · exact .refl o
  · refine ⟨fun h => { h with skew := ?_ }, fun _ => Nat.le_refl _, fun _ => Nat.le_refl _, fun _ => id⟩
    have hskew := h.skew
    dsimp only
    push_cast
    omega

theorem Observation.accumulate_follows (r : LaneRecord) (o : Observation) : o.Follows (o.accumulate r) :=
  ((o.addUnits_follows _).trans (Observation.addErrors_follows _ _)).trans
    (Observation.addSkew_follows (skewSample_range r.skew) _)

theorem Observation.judge_follows (measure : Bool) (r : LaneRecord) (word : Word) (o : Observation) :
    o.Follows (o.judge measure r word) := by
  unfold Observation.judge
  split
  · split
    · exact o.accumulate_follows r
    · exact .refl o
  · exact o.drop_follows

-- ==== Settle tracking of an unsettled record (R107, R108) ====

/-- A decoded endpoint is one of the 768 (R51). -/
theorem classifyTaken_heard {generation : Nat} {w : Word} {inverted i : Bool} {cls : SettledClass} {heard : Nat}
    (h : classifyTaken generation w inverted = .valid cls heard i) : heard ≤ 767 := by
  unfold classifyTaken at h
  split at h
  · rename_i hfields
    split at h <;> cases h <;> exact hfields.1
  · cases h

theorem classify_heard {generation : Nat} {lock inverted : Bool} {raw : Word} {cls : SettledClass} {heard : Nat}
    (h : classify generation lock raw = .valid cls heard inverted) : heard ≤ 767 := by
  unfold classify at h
  split at h
  · split at h
    · exact classifyTaken_heard h
    · split at h
      · exact classifyTaken_heard h
      · cases h
  · cases h

section Track

variable {o : Observation} (hn : o.settled = none)
include hn

/-- Only an unsettled record is tracked, so nothing it settled on is at stake. -/
theorem Observation.follows_of_unsettled {o' : Observation} (hs : o.Sound → o'.Sound) (hu : o'.units = o.units)
    (he : o'.errors = o.errors) : o.Follows o' :=
  ⟨hs, fun _ => hu.ge, fun _ => he.ge, fun _ hx => absurd hx (by simp [hn])⟩

/-- The run is set short of 3, with a candidate exactly while it is above 0 (R107). -/
theorem Observation.set_run_follows {n : Nat} {candidate : Option Word} (hrun : n ≤ 2)
    (hc : candidate.isSome = true ↔ 0 < n) : o.Follows { o with lockRun := n, candidate := candidate } :=
  Observation.follows_of_unsettled hn
    (fun h => { h with
      run := hrun.trans (by decide)
      candidate := hc
      settled := fun x hx => absurd hx (by simp [hn])
      unsettled := fun _ => hrun })
    rfl rfl

/-- An unsettled record has a run of at most 2, so the run raised is at most 3, and at 3 the record settles on its
candidate. -/
theorem Observation.raise_run_follows {raw : Word} {cls : SettledClass} {heard : Nat} (hc : o.candidate = some raw)
    (hh : heard ≤ 767) :
    o.Follows
      { o with
        lockRun := o.lockRun + 1
        settled := if o.lockRun + 1 = 3 then some { cls := cls, word := raw, heard := heard } else o.settled } := by
  refine Observation.follows_of_unsettled hn (fun h => ?_) rfl rfl
  have hrun := h.unsettled hn
  refine { h with run := ?_, candidate := ?_, settled := fun x hx => ?_, unsettled := fun hx => ?_ }
  · dsimp only
    omega
  · simp [hc]
  · dsimp only at hx
    split at hx
    · rename_i h3
      obtain rfl := Option.some.inj hx
      exact ⟨h3, hc, hh⟩
    · exact absurd hx (by simp [hn])
  · dsimp only at hx ⊢
    split at hx
    · cases hx
    · omega

theorem Observation.track_follows {raw : Word} {c : Classified}
    (hc : ∀ cls heard inverted, c = .valid cls heard inverted → heard ≤ 767) : o.Follows (o.track raw c) := by
  unfold Observation.track
  split
  · exact Observation.set_run_follows hn (by decide) (by simp)
  · exact Observation.set_run_follows hn (by decide) (by simp)
  · unfold Observation.run
    split
    · exact Observation.raise_run_follows hn (by assumption) (hc _ _ _ rfl)
    · exact Observation.set_run_follows hn (by decide) (by simp)

end Track

-- ==== A lane record and a marker ====

theorem Observation.apply_follows (generation : Nat) (measure : Bool) (r : LaneRecord) (o : Observation) :
    o.Follows (o.apply generation measure r) := by
  have hsee := o.see_follows r.lock (classify generation r.lock r.raw)
  cases hset : o.settled with
  | some x =>
    rw [Observation.apply_of_settled _ _ hset]
    exact hsee.trans (Observation.judge_follows _ _ _ _)
  | none =>
    rw [Observation.apply_of_unsettled _ _ hset]
    split
    · exact hsee
    · exact hsee.trans (Observation.track_follows ((Observation.see_settled _ _ o).trans hset) fun _ _ _ => classify_heard)

theorem Observation.gap_follows (o : Observation) : o.Follows { o with gaps := min (o.gaps + 1) 4095 } :=
  ⟨fun h => { h with gaps := Nat.min_le_right _ _ }, fun _ => Nat.le_refl _, fun _ => Nat.le_refl _, fun _ => id⟩

-- ==== A table that follows a table ====

/-- Every observation record of `t` follows that of `s`. -/
def State.EvidenceFollows (s t : State) : Prop := ∀ e, (s.observations.get e).Follows (t.observations.get e)

theorem State.EvidenceFollows.of_eq {s t : State} (h : t.observations = s.observations) : s.EvidenceFollows t :=
  fun _ => h ▸ .refl _

theorem State.EvidenceFollows.trans {s t u : State} (h : s.EvidenceFollows t) (h' : t.EvidenceFollows u) :
    s.EvidenceFollows u :=
  fun e => (h e).trans (h' e)

theorem State.EvidenceFollows.evidenceOk {s t : State} (h : s.EvidenceFollows t) (hs : s.EvidenceOk) : t.EvidenceOk :=
  fun e => (h e).sound (hs e)

/-- Writing one record that follows the old one makes the table follow. -/
theorem State.EvidenceFollows.of_set {s t : State} {rx : Nat} {o : Observation} (ho : (s.observations.get rx).Follows o)
    (h : t.observations = s.observations.set rx o) : s.EvidenceFollows t := by
  intro e
  rw [h]
  obtain hold | ⟨rfl, hset⟩ := s.observations.get_set_cases rx e o
  · rw [hold]
    exact .refl _
  · rw [hset]
    exact ho

/-- The lane record's own effect on the observation table (R96). -/
theorem State.applyRecord_observations (measure : Bool) (rx : Nat) (r : LaneRecord) (s : State) :
    (s.applyRecord measure rx r).observations =
      s.observations.set rx ((s.observations.get rx).apply s.generation measure r) :=
  State.hear_observations _ _ _

theorem State.applyRecord_evidence (measure : Bool) (rx : Nat) (r : LaneRecord) (s : State) :
    s.EvidenceFollows (s.applyRecord measure rx r) :=
  .of_set (Observation.apply_follows _ _ _ _) (State.applyRecord_observations _ _ _ _)

theorem State.applyRecords_evidence (measure : Bool) (slot : Nat) (records : List LaneRecord) (s : State) :
    s.EvidenceFollows (s.applyRecords measure slot records) := by
  induction records generalizing s with
  | nil => exact .of_eq rfl
  | cons r records ih => exact (s.applyRecord_evidence _ _ r).trans (ih _)

theorem State.takeReport_evidence (slot n g : Nat) (records : List LaneRecord) (s : State) :
    s.EvidenceFollows (s.takeReport slot n g records) :=
  State.applyRecords_evidence (s.seq.phaseOf n == .measure) slot records
    { s with windows := s.windows.set slot ((s.windows.get slot).take g records) }

theorem State.countGaps_evidence (s : State) : s.EvidenceFollows s.countGaps := by
  intro e
  rw [State.countGaps_observations]
  by_cases he : e < Config.endpoints
  · rw [Table.get_mapIdx _ _ he]
    split
    · exact Observation.gap_follows _
    · exact .refl _
  · rw [Table.get_outside _ (Nat.le_of_not_lt he), Table.get_outside _ (Nat.le_of_not_lt he)]
    exact .refl _

theorem State.bookkeep_evidence (s : State) : s.EvidenceFollows s.bookkeep := by
  unfold State.bookkeep
  split
  · split
    · exact .of_eq rfl
    · exact s.countGaps_evidence.trans (.of_eq rfl)
    · exact .of_eq rfl
    · exact .of_eq rfl
  · exact .of_eq rfl

theorem State.expire_evidence (s : State) : s.EvidenceFollows s.expire := by
  unfold State.expire
  split
  · exact .of_eq rfl
  · split
    · exact .of_eq rfl
    · exact State.EvidenceFollows.trans (s := s) s.pulse.bookkeep_evidence (.of_eq (State.phaseTest_observations _ _))

-- ==== A table that is cleared (R123) ====

/-- Every observation record is cleared but for its planned link. -/
def State.EvidenceCleared (s : State) : Prop := ∀ e, ∃ p, s.observations.get e = { planned := p }

theorem State.EvidenceCleared.of_empty {s : State} (h : s.observations = Table.replicate _ {}) : s.EvidenceCleared :=
  fun e => ⟨none, by rw [h, observations_empty]⟩

theorem State.EvidenceCleared.of_planned {s : State} {plan : List (Nat × Link)}
    (h : s.observations = plannedObservations plan) : s.EvidenceCleared := by
  intro e
  rw [h, plannedObservations]
  by_cases he : e < Config.endpoints
  · rw [Table.get_mapIdx _ _ he, observations_empty]
    exact ⟨_, rfl⟩
  · rw [Table.get_outside _ (Nat.le_of_not_lt he)]
    exact ⟨none, rfl⟩

theorem State.EvidenceCleared.evidenceOk {s : State} (h : s.EvidenceCleared) : s.EvidenceOk := by
  intro e
  obtain ⟨p, he⟩ := h e
  rw [he]
  exact Observation.sound_cleared p

theorem State.EvidenceCleared.totals {s : State} (h : s.EvidenceCleared) (e : Nat) :
    (s.observations.get e).units = 0 ∧ (s.observations.get e).errors = 0 := by
  obtain ⟨p, he⟩ := h e
  rw [he]
  exact ⟨rfl, rfl⟩

-- ==== Every step ====

/-- What one event does to the observation table: its records follow the old ones, or it is cleared. -/
def State.EvidenceWork (s t : State) : Prop := s.EvidenceFollows t ∨ t.EvidenceCleared

/-- START and RESET CAMPAIGN clear the table, a report applies its records, and no other request touches it. -/
theorem BlockWork.evidenceWork {src : SourceId} {s t : State} (h : BlockWork src s t) : s.EvidenceWork t := by
  cases h with
  | report slot n g records => exact .inl (s.takeReport_evidence slot n g records)
  | start => exact .inr (.of_planned s.startSweep_observations)
  | campaignReset => exact .inr (.of_empty s.campaignReset_observations)
  | _ => exact .inl (.of_eq (by simp))

/-- A relation of the blocks that the changes of every request, of the timer's expiry and of the steps of the pass
bear out is borne out by every step: `step_keeps` for two states. -/
theorem step_relates {R : State → State → Prop}
    (hp : ∀ s t q p l q' p' l', R s t → R { s with pending := q, port := p, lines := l }
      { t with pending := q', port := p', lines := l' })
    (hrefl : ∀ s, R s s)
    (hreset : ∀ s, R s State.reset)
    (hwork : ∀ src s t, BlockWork src s t → R s t)
    (hexpire : ∀ s, R s s.expire)
    (hlink : ∀ s k x, s.nextLink = some (k, x) → R s (s.stepLink k x))
    (hun : ∀ s rx, s.nextUnplanned = some rx → R s (s.stepUnplanned rx))
    {s t : State} (h : step s = .next t) : R s t := by
  unfold step at h
  split at h
  · obtain rfl := Host.Outcome.next.inj h
    exact hrefl s
  · rename_i c rest hqueue
    have back {u v : State} {p p' : Port} {l l' : Lines} (hu : u = { s with pending := rest, port := p, lines := l })
        (huv : R u v) : R s { v with port := p', lines := l' } := by
      have hback := hp u v s.pending s.port s.lines v.pending p' l' huv
      subst hu
      exact hback
    cases exec_cases h with
    | none h =>
      obtain ⟨p, l, rfl⟩ := h
      exact back rfl (hrefl _)
    | body src b hb h =>
      obtain ⟨p, l, s', ⟨p', l', rfl⟩, rfl⟩ := h
      exact back rfl (hwork src _ _ (body_work hb _))
    | reset h =>
      obtain ⟨p, l, rfl⟩ := h
      exact hp s _ s.pending s.port s.lines _ p l (hreset s)
    | expire period ht h =>
      obtain ⟨l, rfl⟩ := h
      exact back rfl (hexpire (s.withPending rest).quietLines)
    | link k x hn h =>
      obtain ⟨l, rfl⟩ := h
      exact back rfl (hlink (s.withPending rest).quietLines k x hn)
    | unplanned rx hn h =>
      obtain ⟨l, rfl⟩ := h
      exact back rfl (hun (s.withPending rest).quietLines rx hn)

theorem step_evidenceWork {s t : State} (h : step s = .next t) : s.EvidenceWork t :=
  step_relates (R := State.EvidenceWork)
    (hp := fun _ _ _ _ _ _ _ _ h => h)
    (hrefl := fun _ => .inl (.of_eq rfl))
    (hreset := fun _ => .inr (.of_empty rfl))
    (hwork := fun _ _ _ hw => hw.evidenceWork)
    (hexpire := fun s => .inl s.expire_evidence)
    (hlink := fun s k x _ => .inl (.of_eq (s.stepLink_observations k x)))
    (hun := fun s rx _ => .inl (.of_eq (s.stepUnplanned_observations rx)))
    h

/-- Settles O57: a step's records follow the old ones, which keeps them sound and their totals from falling, or the
table is cleared. -/
theorem evidenceStays : Obligations.EvidenceStays := by
  intro s t h hs
  obtain hfollows | hcleared := step_evidenceWork h
  · exact ⟨hfollows.evidenceOk hs, .inl fun e => ⟨(hfollows e).units (hs e), (hfollows e).errors (hs e)⟩⟩
  · exact ⟨hcleared.evidenceOk, .inr hcleared.totals⟩

end Sys2Proof.Machine
end

section
/-!
The laws of the hearing table and of the figures: every step keeps the hearers lists in agreement with the settled
records (R120, R121), and the margin figures and link skews of verdicts and findings in range (R129, R135).
-/

namespace Sys2Proof.Machine

-- ==== A hearers record and the records it lists (R120, R121) ====

/-- A hearers record of transmit endpoint `tx` as R120 and R121 describe it, against the observation records of `s`. -/
structure Hearers.Agrees (s : State) (tx : Nat) (h : Hearers) : Prop where
  size     : h.list.length ≤ 4
  distinct : h.list.Nodup
  settled  : ∀ e ∈ h.list, e ≤ 767 ∧ (s.observations.get e).hearing = some tx
  overflow : h.overflow = true → h.list.length = 4

theorem State.hearingOk_iff {s : State} : s.HearingOk ↔ ∀ tx, (s.hearing.get tx).Agrees s tx :=
  ⟨fun h tx => ⟨h.size tx, h.distinct tx, h.settled tx, h.overflow tx⟩,
    fun h => ⟨fun tx => (h tx).size, fun tx => (h tx).distinct, fun tx => (h tx).settled, fun tx => (h tx).overflow⟩⟩

/-- An unsettled record hears no transmitter. -/
theorem Observation.hearing_of_unsettled {o : Observation} (h : o.settled = none) : o.hearing = none := by
  rw [Observation.hearing, h]

/-- What a record hears, it goes on hearing, since what it settled on stays (R108). -/
theorem Observation.Follows.hearing {o o' : Observation} (h : o.Follows o') {tx : Nat} (ho : o.hearing = some tx) :
    o'.hearing = some tx := by
  cases hx : o.settled with
  | none => exact absurd ho (by simp [Observation.hearing_of_unsettled hx])
  | some x =>
    unfold Observation.hearing at ho ⊢
    rw [h.settled x hx]
    rwa [hx] at ho

section Follows

variable {s t : State} (hf : s.EvidenceFollows t) {tx : Nat} {h : Hearers} (ha : h.Agrees s tx)
include hf ha

/-- The records in a list go on hearing its transmitter. -/
theorem Hearers.Agrees.follows : h.Agrees t tx :=
  { ha with
    settled := fun e he =>
      have ⟨hle, hheard⟩ := ha.settled e he
      ⟨hle, (hf e).hearing hheard⟩ }

/-- A receive endpoint that has just settled on `tx` stands in no list yet, so it is new in this one (R120). -/
theorem Hearers.Agrees.join {rx : Nat} (hrx : rx ≤ 767) (hnew : (s.observations.get rx).settled = none)
    (hheard : (t.observations.get rx).hearing = some tx) : (h.join rx).Agrees t tx := by
  have hfollow := ha.follows hf
  unfold Hearers.join
  split
  · rename_i hroom
    have hnot : rx ∉ h.list := fun hmem => by
      have ⟨_, hold⟩ := ha.settled rx hmem
      exact absurd hold (by simp [Observation.hearing_of_unsettled hnew])
    exact
      { size := by simpa using hroom
        distinct := by
          rw [← List.concat_eq_append]
          exact ha.distinct.concat hnot
        settled := fun e he => by
          obtain he | he := List.mem_append.1 he
          · exact hfollow.settled e he
          · obtain rfl := List.mem_singleton.1 he
            exact ⟨hrx, hheard⟩
        overflow := fun hover => absurd (ha.overflow hover) (Nat.ne_of_lt hroom) }
  · rename_i hfull
    exact { hfollow with overflow := fun _ => Nat.le_antisymm ha.size (Nat.le_of_not_lt hfull) }

end Follows

-- ==== The hearing table under an event ====

theorem State.HearingOk.of_follows {s t : State} (h : s.HearingOk) (hf : s.EvidenceFollows t)
    (hh : t.hearing = s.hearing) : t.HearingOk := by
  rw [State.hearingOk_iff] at h ⊢
  intro tx
  rw [hh]
  exact (h tx).follows hf

/-- An empty hearing table agrees with any records (R123). -/
theorem State.HearingOk.of_empty {t : State} (hh : t.hearing = Table.replicate _ {}) : t.HearingOk := by
  rw [State.hearingOk_iff]
  intro tx
  rw [hh, hearing_empty]
  exact ⟨by decide, List.nodup_nil, fun _ he => absurd he List.not_mem_nil, fun h => absurd h (by decide)⟩

theorem State.HearingOk.of_join {s t : State} (h : s.HearingOk) (hf : s.EvidenceFollows t) {rx tx : Nat} (hrx : rx ≤ 767)
    (hnew : (s.observations.get rx).settled = none) (hheard : (t.observations.get rx).hearing = some tx)
    (hh : t.hearing = s.hearing.set tx ((s.hearing.get tx).join rx)) : t.HearingOk := by
  rw [State.hearingOk_iff] at h ⊢
  intro i
  rw [hh]
  obtain hold | ⟨rfl, hset⟩ := s.hearing.get_set_cases tx i ((s.hearing.get tx).join rx)
  · rw [hold]
    exact (h i).follows hf
  · rw [hset]
    exact (h i).join hf hrx hnew hheard

/-- A receive endpoint joins a list exactly when its record settles on that transmitter with this lane record. -/
theorem joins_eq_some {before after : Observation} {tx : Nat} (h : joins before after = some tx) :
    before.settled = none ∧ after.hearing = some tx := by
  unfold joins at h
  split at h
  · rename_i hbefore hafter
    rw [Observation.hearing, hafter]
    exact ⟨hbefore, h⟩
  · cases h

theorem State.HearingOk.applyRecord {s : State} (h : s.HearingOk) (measure : Bool) {rx : Nat} (hrx : rx ≤ 767)
    (r : LaneRecord) : (s.applyRecord measure rx r).HearingOk := by
  have hf := s.applyRecord_evidence measure rx r
  have hobs := State.applyRecord_observations measure rx r s
  cases hj : joins (s.observations.get rx) ((s.observations.get rx).apply s.generation measure r) with
  | none =>
    refine h.of_follows hf ?_
    simp [State.applyRecord, State.hear, hj]
  | some tx =>
    obtain ⟨hnew, hheard⟩ := joins_eq_some hj
    refine h.of_join hf hrx hnew (tx := tx) ?_ ?_
    · rw [hobs, Table.get_set_same _ (Nat.lt_succ_of_le hrx)]
      exact hheard
    · simp [State.applyRecord, State.hear, hj]

theorem State.HearingOk.applyRecords {s : State} (h : s.HearingOk) (measure : Bool) {slot : Nat} (hslot : slot ≤ 23)
    (records : List LaneRecord) : (s.applyRecords measure slot records).HearingOk := by
  induction records generalizing s with
  | nil => exact h
  | cons r records ih =>
    have hlane := r.lane.isLt
    refine ih (h.applyRecord measure ?_ r)
    unfold endpoint
    omega

theorem BlockWork.hearingOk {src : SourceId} {s t : State} (h : BlockWork src s t) (hs : s.HearingOk) : t.HearingOk := by
  cases h with
  | report slot n g records hslot =>
    have hwindow : State.HearingOk { s with windows := s.windows.set slot ((s.windows.get slot).take g records) } :=
      hs.of_follows (.of_eq rfl) rfl
    exact hwindow.applyRecords _ hslot records
  | start => exact .of_empty s.startSweep_hearing
  | campaignReset => exact .of_empty s.campaignReset_hearing
  | _ => exact hs.of_follows (.of_eq (by simp)) (by simp)

theorem step_hearingOk {s t : State} (h : step s = .next t) (hs : s.HearingOk) : t.HearingOk :=
  step_keeps (P := State.HearingOk)
    (hp := fun _ _ _ _ hs => hs.of_follows (.of_eq rfl) rfl)
    (hreset := .of_empty rfl)
    (hwork := fun _ _ _ hw hs => hw.hearingOk hs)
    (hexpire := fun s hs _ => hs.of_follows s.expire_evidence s.expire_hearing)
    (hlink := fun s k x hs _ => hs.of_follows (.of_eq (s.stepLink_observations k x)) (s.stepLink_hearing k x))
    (hun := fun s rx hs _ => hs.of_follows (.of_eq (s.stepUnplanned_observations rx)) (s.stepUnplanned_hearing rx))
    h hs

-- ==== The margin figure (R128, R129) ====

/-- The compared bits have their highest set bit at 47 or below, and an error count plus 3 at 1 or above. -/
theorem marginFigure_le {c : Nat} (hc : c < 2 ^ 48) (e : Nat) : marginFigure c e ≤ 46 := by
  unfold marginFigure
  split
  · exact Nat.zero_le _
  · rename_i hpos
    have hbits : Nat.log2 c < 48 := (Nat.log2_lt hpos).2 hc
    have herrors : 1 ≤ Nat.log2 (e + 3) := (Nat.le_log2 (by omega)).2 (by omega)
    repeat' split
    all_goals omega

theorem Observation.Sound.figure_le {o : Observation} (h : o.Sound) : o.figure ≤ 46 := by
  have hunits := h.units
  refine marginFigure_le ?_ o.errors
  unfold Observation.bits
  omega

theorem least_mem {l : List Nat} {q : Nat} (h : least l = some q) : q ∈ l := by
  induction l generalizing q with
  | nil => cases h
  | cons a l ih =>
    unfold least at h
    split at h
    · obtain rfl := Option.some.inj h
      exact List.mem_cons_self
    · rename_i b hb
      obtain rfl := Option.some.inj h
      obtain hmin | hmin := min_choice a b <;> rw [hmin]
      · exact List.mem_cons_self
      · exact List.mem_cons_of_mem _ (ih hb)

theorem linkMargin_le {lanes : List Observation} (h : ∀ o ∈ lanes, o.Sound) {q : Nat} (hq : linkMargin lanes = some q) :
    q ≤ 46 := by
  obtain ⟨o, ho, rfl⟩ := List.mem_map.1 (least_mem hq)
  exact (h o (List.mem_of_mem_filter ho)).figure_le

-- ==== The link skew (R133–R135) ====

/-- The average of samples in −2047..2047 lies in −2047..2047. -/
theorem Observation.Sound.average_range {o : Observation} (h : o.Sound) {z : Int} (hz : o.average = some z) :
    -2047 ≤ z ∧ z ≤ 2047 := by
  unfold Observation.average at hz
  split at hz
  · rename_i hcount
    obtain rfl := Option.some.inj hz
    obtain ⟨hlow, hhigh⟩ := h.skew
    have hpos : (0 : Int) < o.skewCount := Int.natCast_pos.2 hcount
    exact ⟨Int.le_ediv_of_mul_le hpos hlow, Int.ediv_le_of_le_mul hpos hhigh⟩
  · cases hz

theorem largest_le {a b : Int} {l : List Int} (ha : a ≤ b) (hl : ∀ z ∈ l, z ≤ b) : largest a l ≤ b :=
  List.foldlRecOn (motive := (· ≤ b)) l max ha fun _ hacc z hz => max_le hacc (hl z hz)

theorem le_smallest {a b : Int} {l : List Int} (ha : b ≤ a) (hl : ∀ z ∈ l, b ≤ z) : b ≤ smallest a l :=
  List.foldlRecOn (motive := (b ≤ ·)) l min ha fun _ hacc z hz => le_min hacc (hl z hz)

theorem linkSkew_le {lanes : List Observation} (h : ∀ o ∈ lanes, o.Sound) {k : Nat} (hk : linkSkew lanes = some k) :
    k ≤ 4094 := by
  have hrange : ∀ z ∈ sampledAverages lanes, -2047 ≤ z ∧ z ≤ 2047 := fun z hz => by
    obtain ⟨o, ho, hoz⟩ := List.mem_filterMap.1 hz
    exact (h o ho).average_range hoz
  unfold linkSkew at hk
  split at hk
  · rename_i a b l hsampled
    obtain rfl := Option.some.inj hk
    rw [hsampled, List.forall_mem_cons] at hrange
    obtain ⟨ha, hl⟩ := hrange
    have hlargest := largest_le ha.2 fun z hz => (hl z hz).2
    have hsmallest := le_smallest ha.1 fun z hz => (hl z hz).1
    omega
  · cases hk

-- ==== The figures of a verdict record and of a finding ====

theorem State.EvidenceOk.evaluate_inRange {s : State} (h : s.EvidenceOk) (l : Link) :
    FiguresInRange (s.evaluate l).margin (s.evaluate l).skew := by
  have hlanes : ∀ o ∈ s.laneRecords l, o.Sound := fun o ho => by
    obtain ⟨i, _, rfl⟩ := List.mem_map.1 ho
    exact h (l.rxOf i)
  exact ⟨fun _ => linkMargin_le hlanes, fun _ => linkSkew_le hlanes⟩

theorem Observation.Sound.unplanned_inRange {o : Observation} (h : o.Sound) (rx : Nat) :
    FiguresInRange (unplannedFinding rx o).margin (unplannedFinding rx o).skew := by
  refine ⟨fun q hq => ?_, fun k hk => absurd hk (by simp [unplannedFinding])⟩
  unfold unplannedFinding at hq
  dsimp only at hq
  split at hq
  · obtain rfl := Option.some.inj hq
    exact h.figure_le
  · cases hq

-- ==== The pending finding under the shared operations ====

/-- A finding that waits in `t` waited in `s`. -/
def State.PendingFollows (s t : State) : Prop :=
  ∀ f, t.cursor.pendingFinding = some f → s.cursor.pendingFinding = some f

theorem State.PendingFollows.of_eq {s t : State} (h : t.cursor.pendingFinding = s.cursor.pendingFinding) :
    s.PendingFollows t :=
  fun _ ht => h ▸ ht

theorem State.PendingFollows.of_none {s t : State} (h : t.cursor.pendingFinding = none) : s.PendingFollows t :=
  fun _ ht => absurd ht (by simp [h])

theorem State.finishPass_pendingFinding (s : State) : s.finishPass.cursor.pendingFinding = s.cursor.pendingFinding := by
  unfold State.finishPass
  dsimp only
  split <;> rfl

theorem State.advance_pendingFinding (s : State) : s.advance.cursor.pendingFinding = s.cursor.pendingFinding := by
  unfold State.advance
  split
  · split <;> rfl
  · split
    · rfl
    · exact s.finishPass_pendingFinding
  · rfl

theorem State.stopPass_pending_follows (s : State) : s.PendingFollows s.stopPass := by
  unfold State.stopPass
  split
  · exact .of_eq rfl
  · exact .of_eq rfl
  all_goals exact .of_none rfl

theorem State.abortStopped_cursor (c : AbortCause) (s : State) : (s.abortStopped c).cursor = s.cursor := by
  obtain ⟨_, _, h⟩ := State.abortStopped_frame c s
  rw [h]

theorem State.abortReduce_pending_follows (c : AbortCause) (s : State) : s.PendingFollows (s.abortReduce c) := by
  have hcursor : (s.abortReduce c).cursor = (s.setCause c).stopPass.cursor := by
    unfold State.abortReduce
    dsimp only
    split <;> rfl
  intro f hf
  rw [hcursor] at hf
  exact (s.setCause c).stopPass_pending_follows f hf

/-- Only the abort out of REDUCE touches the pass (R71, R158). -/
theorem State.abortSweep_pending_follows (c : AbortCause) (s : State) : s.PendingFollows (s.abortSweep c) := by
  have hstopped : s.PendingFollows (s.abortStopped c) := .of_eq (by rw [State.abortStopped_cursor])
  unfold State.abortSweep
  cases s.seq.sweep with
  | reduce => exact s.abortReduce_pending_follows c
  | stopped resume =>
    cases resume with
    | settle => exact .of_eq rfl
    | measure => exact hstopped
    | reduce => exact hstopped
  | _ => exact .of_eq rfl

theorem State.allLost_pending_follows (s : State) : s.PendingFollows s.allLost := by
  unfold State.allLost
  split
  · exact s.abortSweep_pending_follows .allLost
  · exact .of_eq rfl

theorem State.activeFell_pending_follows (s : State) : s.PendingFollows s.activeFell := by
  unfold State.activeFell
  split
  · exact s.allLost_pending_follows
  · exact .of_eq rfl

theorem State.testReduce_pendingFinding (s : State) : s.testReduce.cursor.pendingFinding = s.cursor.pendingFinding := by
  unfold State.testReduce
  split
  · unfold State.startEvaluation
    dsimp only
    split <;> rfl
  · rfl

theorem State.testDeadline_cursor (o : HaltOrigin) (s : State) : (s.testDeadline o).cursor = s.cursor := by
  obtain ⟨_, _, h⟩ := State.testDeadline_frame o s
  rw [h]

theorem State.phaseTest_pending_follows (fell : Bool) (s : State) : s.PendingFollows (s.phaseTest fell) := by
  unfold State.phaseTest
  cases s.seq.sweep with
  | arming =>
    obtain ⟨_, _, _, _, h⟩ := s.testArming_frame
    exact .of_eq (by rw [h])
  | settle =>
    dsimp only
    split
    · exact s.allLost_pending_follows
    · obtain ⟨_, _, h⟩ := s.testSettle_frame
      exact .of_eq (by rw [h])
  | measure =>
    dsimp only
    split
    · exact s.allLost_pending_follows
    · obtain ⟨_, _, _, h⟩ := s.testMeasure_frame
      exact .of_eq (by rw [h])
  | reduce => exact .of_eq (by rw [State.testDeadline_cursor, State.testReduce_pendingFinding])
  | aborting => exact .of_eq (by rw [State.testDeadline_cursor])
  | _ => exact .of_eq rfl

theorem State.expire_pending_follows (s : State) : s.PendingFollows s.expire := by
  unfold State.expire
  split
  · exact .of_eq rfl
  · split
    · exact .of_eq rfl
    · intro f hf
      simpa using State.phaseTest_pending_follows _ _ f hf

-- ==== The figures under an event ====

/-- The figures of `t` are in range where its verdicts are those of `s` or NOT_EVALUATED and its findings are of `s`. -/
theorem State.FiguresOk.of_old {s t : State} (h : s.FiguresOk)
    (hv : ∀ i, t.verdicts.get i = s.verdicts.get i ∨ t.verdicts.get i = {}) (hf : t.findings ⊆ s.findings)
    (hp : s.PendingFollows t) : t.FiguresOk where
  verdicts i := by
    obtain hi | hi := hv i <;> rw [hi]
    · exact h.verdicts i
    · exact ⟨fun _ hq => absurd hq (by simp), fun _ hk => absurd hk (by simp)⟩
  findings q hq := h.findings q (hf hq)
  pending f hf := h.pending f (hp f hf)

theorem State.FiguresOk.advance {s : State} (h : s.FiguresOk) : s.advance.FiguresOk :=
  h.of_old (fun _ => .inl (by rw [State.advance_verdicts])) (by simp) (.of_eq s.advance_pendingFinding)

theorem State.FiguresOk.writeVerdict {s : State} (h : s.FiguresOk) (id : Nat) {v : VerdictRecord}
    (hv : FiguresInRange v.margin v.skew) : (s.writeVerdict id v).FiguresOk where
  verdicts i := by
    rw [State.writeVerdict_verdicts]
    obtain hold | ⟨_, hset⟩ := s.verdicts.get_set_cases id i v
    · rw [hold]
      exact h.verdicts i
    · rw [hset]
      exact hv
  findings := h.findings
  pending := h.pending

section Finding

variable {s : State} (h : s.FiguresOk) {f : Finding} (hf : FiguresInRange f.margin f.skew)
include h hf

theorem State.FiguresOk.pushFinding : (s.pushFinding f).FiguresOk where
  verdicts := h.verdicts
  findings q hq := by
    obtain hq | hq := List.mem_append.1 hq
    · exact h.findings q hq
    · obtain rfl := List.mem_singleton.1 hq
      exact hf
  pending := h.pending

/-- A finding offered enters the queue or waits (R156). -/
theorem State.FiguresOk.offer : (s.offer f).FiguresOk := by
  unfold State.offer
  split
  · exact (h.pushFinding hf).advance
  · exact
      { verdicts := h.verdicts
        findings := h.findings
        pending := fun g hg => by
          obtain rfl := Option.some.inj hg
          exact hf }

end Finding

/-- A link's verdict and its finding carry the figures that the evidence gives (R141, R153). -/
theorem State.FiguresOk.stepLink {s : State} (h : s.FiguresOk) (he : s.EvidenceOk) (id : Nat) (l : Link) :
    (s.stepLink id l).FiguresOk := by
  have hv := he.evaluate_inRange l
  unfold State.stepLink
  dsimp only
  split
  · exact (h.writeVerdict id hv).advance
  · exact (h.writeVerdict id hv).offer hv

theorem State.FiguresOk.stepUnplanned {s : State} (h : s.FiguresOk) (he : s.EvidenceOk) (rx : Nat) :
    (s.stepUnplanned rx).FiguresOk := by
  unfold State.stepUnplanned
  dsimp only
  split
  · exact h.offer ((he rx).unplanned_inRange rx)
  · exact h.advance

/-- A request leaves each verdict record as it was or NOT_EVALUATED. -/
theorem PlanWork.verdicts_old {s t : State} (h : PlanWork s t) (i : Nat) :
    t.verdicts.get i = s.verdicts.get i ∨ t.verdicts.get i = {} := by
  cases h with
  | kept _ hv => exact .inl (by rw [hv])
  | verdictsReset _ hv => exact .inr (by rw [hv, verdicts_empty])
  | emptied _ hv => exact .inr (by rw [hv, verdicts_empty])
  | removed k _ hv =>
    rw [hv]
    exact (s.verdicts.get_set_cases k i {}).imp id And.right
  | stored f k _ _ _ hv =>
    rw [hv]
    exact (s.verdicts.get_set_cases f.id.toNat i {}).imp id And.right

/-- No request makes a new figure: a pending finding may enter the queue, and an abort may drop it. -/
theorem BlockWork.figuresOk {src : SourceId} {s t : State} (h : BlockWork src s t) (hs : s.FiguresOk) : t.FiguresOk := by
  have hv := h.planWork.verdicts_old
  cases h with
  | releaseAndPush head rest f hqueue hp =>
    have hfreed : State.FiguresOk { s with findings := rest, cursor := { s.cursor with pendingFinding := Option.none } } :=
      hs.of_old (fun _ => .inl rfl) (hqueue ▸ List.subset_cons_self head rest) (.of_none rfl)
    exact (hfreed.pushFinding (hs.pending f hp)).advance
  | releaseFinding head rest hqueue hp =>
    exact hs.of_old hv (hqueue ▸ List.subset_cons_self head rest) (.of_eq rfl)
  | start => exact hs.of_old hv (List.nil_subset _) (.of_none rfl)
  | campaignReset => exact hs.of_old hv (List.nil_subset _) (.of_none rfl)
  | restartActive => exact hs.of_old hv (by simp) (State.activeFell_pending_follows _)
  | contestActive => exact hs.of_old hv (by simp) (State.activeFell_pending_follows _)
  | abort => exact hs.of_old hv (by simp) (s.abortSweep_pending_follows _)
  | _ => exact hs.of_old hv (by simp) (.of_eq (by simp))

theorem State.reset_figuresOk : State.reset.FiguresOk where
  verdicts i := by
    rw [show State.reset.verdicts.get i = {} from verdicts_empty i]
    exact ⟨fun _ hq => absurd hq (by simp), fun _ hk => absurd hk (by simp)⟩
  findings _ hq := absurd hq List.not_mem_nil
  pending _ hf := absurd hf (by simp [State.reset])

theorem step_figuresOk {s t : State} (h : step s = .next t) (he : s.EvidenceOk) (hs : s.FiguresOk) : t.FiguresOk :=
  step_keeps_given (P := State.EvidenceOk) (Q := State.FiguresOk)
    (hp := fun _ _ _ _ he => he)
    (hq := fun _ _ _ _ hs => hs.of_old (fun _ => .inl rfl) (List.Subset.refl _) (.of_eq rfl))
    (hreset := State.reset_figuresOk)
    (hwork := fun _ _ _ hw _ hs => hw.figuresOk hs)
    (hexpire := fun s _ hs _ =>
      hs.of_old (fun _ => .inl (by rw [State.expire_verdicts])) (by simp) s.expire_pending_follows)
    (hlink := fun _ k x he hs _ => hs.stepLink he k x)
    (hun := fun _ rx he hs _ => hs.stepUnplanned he rx)
    h he hs

/-- Settles O58: lists change only where a record settles, and figures are computed only from sound records. -/
theorem hearingAndFiguresStay : Obligations.HearingAndFiguresStay :=
  fun _ _ h => ⟨step_hearingOk h, step_figuresOk h⟩

end Sys2Proof.Machine
end

section
/-!
The margin and skew arithmetic as characterisations: what the engine's steps compute is the largest power of two that
fits, the floor of the mean, the least figure and the spread of the averages (R127, R130, R132–R134, R136).
-/

namespace Sys2Proof.Machine

-- ==== The margin figure (R127, R128) ====

theorem marginFigure_of_lt {c e : Nat} (h : c < e + 3) : marginFigure c e = 0 := by
  have hlog : Nat.log2 c ≤ Nat.log2 (e + 3) := by
    simpa only [Nat.log2_eq_log_two] using Nat.log_mono_right h.le
  unfold marginFigure
  obtain hlt | heq := hlog.lt_or_eq
  · simp [hlt]
  · simp [heq, h]

/-- A product of `d` and a power of two has its highest set bit at the sum of the two positions. -/
theorem two_pow_le_mul_and_lt {d : Nat} (hd : d ≠ 0) (n : Nat) :
    2 ^ (Nat.log2 d + n) ≤ d * 2 ^ n ∧ d * 2 ^ n < 2 ^ (Nat.log2 d + n + 1) := by
  have hlow : 2 ^ Nat.log2 d ≤ d := Nat.log2_self_le hd
  have hhigh : d < 2 ^ (Nat.log2 d + 1) := Nat.lt_log2_self
  rw [Nat.pow_add, Nat.add_right_comm, Nat.pow_add]
  exact ⟨Nat.mul_le_mul_right _ hlow, Nat.mul_lt_mul_of_pos_right hhigh (Nat.two_pow_pos n)⟩

/-- The shift that brings the highest set bit of `e + 3` to that of `c` gives a number below `2 * c` and above `c / 2`, so
the comparison of R128 decides between it and the next smaller one. -/
theorem marginFigure_spec {c e : Nat} (h : e + 3 ≤ c) :
    (e + 3) * 2 ^ marginFigure c e ≤ c ∧ c < (e + 3) * 2 ^ (marginFigure c e + 1) := by
  have hd : e + 3 ≠ 0 := by omega
  have hc : c ≠ 0 := by omega
  have hlow : 2 ^ Nat.log2 c ≤ c := Nat.log2_self_le hc
  have hhigh : c < 2 ^ (Nat.log2 c + 1) := Nat.lt_log2_self
  have hlog : Nat.log2 (e + 3) ≤ Nat.log2 c := by
    simpa only [Nat.log2_eq_log_two] using Nat.log_mono_right h
  obtain ⟨n, hn⟩ := Nat.exists_eq_add_of_le hlog
  rw [hn] at hlow hhigh
  have hfigure : marginFigure c e = if c < (e + 3) * 2 ^ n then n - 1 else n := by
    simp [marginFigure, hc, hn]
  rw [hfigure]
  split
  case isTrue hbig =>
    cases n with
    | zero => omega
    | succ m => exact ⟨(two_pow_le_mul_and_lt hd m).2.le.trans hlow, hbig⟩
  case isFalse hfits =>
    exact ⟨Nat.le_of_not_lt hfits, hhigh.trans_le (two_pow_le_mul_and_lt hd (n + 1)).1⟩

/-- The range of R129, from the range of compared units alone. -/
theorem Observation.figure_le_of_units {o : Observation} (h : o.units ≤ 2 ^ 40 - 1) : o.figure ≤ 46 :=
  marginFigure_le (by unfold Observation.bits; omega) o.errors

-- ==== The lane outcome by margin (R130) ====

section Outcome

variable {q e : Nat} {k : ClassRecord}

theorem outcomeByMargin_pass (h : k.qreq ≤ q) : outcomeByMargin q e k = .pass :=
  if_pos h

theorem outcomeByMargin_unproven (he : e = 0) (h : q < k.qreq) : outcomeByMargin q e k = .unproven := by
  simp [outcomeByMargin, he, h]

theorem outcomeByMargin_marginal (he : 0 < e) (hband : k.qreq - k.band ≤ q) (h : q < k.qreq) :
    outcomeByMargin q e k = .marginal := by
  have hwithin : k.qreq ≤ q + k.band := Nat.sub_le_iff_le_add.1 hband
  simp [outcomeByMargin, he.ne', h, hwithin]

theorem outcomeByMargin_errors (he : 0 < e) (h : q < k.qreq - k.band) : outcomeByMargin q e k = .errors := by
  have hbelow : q + k.band < k.qreq := Nat.lt_sub_iff_add_lt.1 h
  have hqreq : q < k.qreq := (Nat.le_add_right q k.band).trans_lt hbelow
  simp [outcomeByMargin, he.ne', hqreq.not_ge, hbelow.not_ge]

end Outcome

-- ==== The average skew of a lane (R133) ====

theorem Observation.average_of_unsampled {o : Observation} (h : o.skewCount = 0) : o.average = none := by
  simp [Observation.average, h]

theorem Observation.average_of_sampled {o : Observation} (h : 0 < o.skewCount) :
    o.average = some (o.skewSum / (o.skewCount : Int)) :=
  if_pos h

/-- The quotient rounded toward minus infinity: at most the true one, and by less than 1. -/
theorem Observation.average_floor {o : Observation} (h : 0 < o.skewCount) :
    ∃ a, o.average = some a ∧ a * o.skewCount ≤ o.skewSum ∧ o.skewSum < (a + 1) * o.skewCount := by
  have hpos : (0 : Int) < o.skewCount := Int.natCast_pos.2 h
  exact ⟨_, average_of_sampled h, Int.ediv_mul_le _ hpos.ne', Int.lt_ediv_add_one_mul_self _ hpos⟩

-- ==== The link's margin figure (R132) ====

theorem least_eq_min? (l : List Nat) : least l = l.min? := by
  induction l with
  | nil => rfl
  | cons a l ih =>
    rw [least, ih, List.min?_cons]
    cases l.min? <;> rfl

/-- The figures a link's figure is taken from: those of its lanes with compared units. -/
theorem mem_comparedFigures {lanes : List Observation} {q : Nat} :
    q ∈ (lanes.filter fun o => 0 < o.units).map Observation.figure ↔ ∃ o ∈ lanes, 0 < o.units ∧ o.figure = q := by
  simp [and_assoc]

theorem linkMargin_eq_none_iff {lanes : List Observation} : linkMargin lanes = none ↔ ∀ o ∈ lanes, o.units = 0 := by
  simp [linkMargin, least_eq_min?, List.min?_eq_none_iff]

theorem linkMargin_eq_some_iff {lanes : List Observation} {q : Nat} :
    linkMargin lanes = some q ↔
      (∃ o ∈ lanes, 0 < o.units ∧ o.figure = q) ∧ ∀ o ∈ lanes, 0 < o.units → q ≤ o.figure := by
  rw [linkMargin, least_eq_min?, List.min?_eq_some_iff, mem_comparedFigures]
  refine and_congr_right fun _ => ⟨fun h o ho hpos => h _ (mem_comparedFigures.2 ⟨o, ho, hpos, rfl⟩), fun h z hz => ?_⟩
  obtain ⟨o, ho, hpos, rfl⟩ := mem_comparedFigures.1 hz
  exact h o ho hpos

-- ==== The link skew (R134) ====

theorem largest_spec (a : Int) (l : List Int) : largest a l ∈ a :: l ∧ ∀ z ∈ a :: l, z ≤ largest a l :=
  List.max?_eq_some_iff.1 rfl

theorem smallest_spec (a : Int) (l : List Int) : smallest a l ∈ a :: l ∧ ∀ z ∈ a :: l, smallest a l ≤ z :=
  List.min?_eq_some_iff.1 rfl

theorem linkSkew_of_few {lanes : List Observation} (h : (sampledAverages lanes).length < 2) : linkSkew lanes = none := by
  unfold linkSkew
  split
  case h_1 hsampled => simp [hsampled] at h
  case h_2 => rfl

theorem exists_linkSkew {lanes : List Observation} (h : 2 ≤ (sampledAverages lanes).length) :
    ∃ a l, sampledAverages lanes = a :: l ∧ linkSkew lanes = some (largest a l - smallest a l).toNat := by
  unfold linkSkew
  match hsampled : sampledAverages lanes, h with
  | a :: b :: l, _ => exact ⟨a, b :: l, rfl, rfl⟩

theorem linkSkew_eq_none_iff {lanes : List Observation} :
    linkSkew lanes = none ↔ (sampledAverages lanes).length < 2 := by
  refine ⟨fun hnone => Nat.lt_of_not_le fun h => ?_, linkSkew_of_few⟩
  obtain ⟨a, l, _, hskew⟩ := exists_linkSkew h
  simp [hskew] at hnone

/-- The ends of a range of members are the largest and the smallest of them, which makes the spread unique. -/
theorem linkSkew_eq_some_iff {lanes : List Observation} {k : Nat} :
    linkSkew lanes = some k ↔ 2 ≤ (sampledAverages lanes).length ∧
      ∃ a ∈ sampledAverages lanes, ∃ b ∈ sampledAverages lanes,
        (∀ z ∈ sampledAverages lanes, b ≤ z ∧ z ≤ a) ∧ (k : Int) = a - b := by
  obtain hfew | hmany := Nat.lt_or_ge (sampledAverages lanes).length 2
  · rw [linkSkew_of_few hfew]
    exact ⟨nofun, fun ⟨hmany, _⟩ => absurd hmany hfew.not_ge⟩
  · obtain ⟨x, l, hsampled, hskew⟩ := exists_linkSkew hmany
    obtain ⟨hlargest, hle⟩ := largest_spec x l
    obtain ⟨hsmallest, hge⟩ := smallest_spec x l
    have hspread : smallest x l ≤ largest x l := hge _ hlargest
    rw [hskew, Option.some.injEq, and_iff_right hmany, hsampled]
    constructor
    · intro hk
      exact ⟨_, hlargest, _, hsmallest, fun z hz => ⟨hge z hz, hle z hz⟩, by omega⟩
    · rintro ⟨a, ha, b, hb, hends, hk⟩
      have htop : largest x l = a := le_antisymm (hends _ hlargest).2 (hle a ha)
      have hbottom : smallest x l = b := le_antisymm (hge b hb) (hends _ hsmallest).1
      omega

-- ==== The outcome SKEW (R136) ====

theorem skewExceeded_iff {budget skew : Option Nat} :
    skewExceeded budget skew = true ↔ ∃ b k, budget = some b ∧ skew = some k ∧ b < k := by
  unfold skewExceeded
  split
  case h_1 b k => simp
  case h_2 habsent => exact ⟨nofun, fun ⟨b, k, hb, hk, _⟩ => (habsent b k hb hk).elim⟩

/-- Settles O48: each figure by its own characterisation, the margin figure by the highest set bits of its two numbers. -/
theorem marginAndSkewArithmetic : Obligations.MarginAndSkewArithmetic := by
  refine ⟨?margin, ?lane, ?outcome, ?average, ?linkMargin, ?linkSkew, fun _ _ => skewExceeded_iff⟩
  case margin =>
    rintro c e _ rfl
    exact ⟨marginFigure_of_lt, marginFigure_spec⟩
  case lane => exact fun o => ⟨rfl, Observation.figure_le_of_units⟩
  case outcome =>
    exact fun q e k =>
      ⟨outcomeByMargin_pass, outcomeByMargin_unproven, outcomeByMargin_marginal, outcomeByMargin_errors⟩
  case average => exact fun o => ⟨Observation.average_of_unsampled, Observation.average_floor⟩
  case linkMargin => exact fun lanes q => ⟨linkMargin_eq_none_iff, linkMargin_eq_some_iff⟩
  case linkSkew =>
    rintro lanes _ k rfl
    exact ⟨linkSkew_eq_none_iff, linkSkew_eq_some_iff⟩

end Sys2Proof.Machine
end

section
/-!
The judgement of a lane: the checks of R144–R149 one by one, each under the condition that those before it do not hold,
against the expected endpoint of R142 and R143.
-/

namespace Sys2Proof.Machine

-- ==== The expected endpoint of a lane (R142, R143) ====

theorem Observation.hearing_eq_some_iff {o : Observation} {e : Nat} :
    o.hearing = some e ↔ ∃ x, o.settled = some x ∧ x.cls ≠ .stale ∧ x.heard = e := by
  unfold Observation.hearing
  cases o.settled with
  | none => simp
  | some x => cases hcls : x.cls <;> simp [hcls]

theorem State.reversalSeen_iff {s : State} {l : Link} :
    s.reversalSeen l = true ↔ 2 ≤ l.width ∧ ∀ n, n < l.width →
      ∃ x, (s.laneRecord l n).settled = some x ∧ x.cls ≠ .stale ∧ x.heard = l.mirrored n := by
  simp [State.reversalSeen, Link.lanes, Observation.hearing_eq_some_iff]

/-- The expected endpoint is the only one that meets both rules of R143. -/
theorem State.expected_eq {s : State} {l : Link} {i e : Nat}
    (hreversed : s.reversalSeen l = true → l.reversal = true → e = l.mirrored i)
    (hdrawn : ¬ s.reversalSeen l = true ∨ l.reversal = false → e = l.drawn i) : s.expected l i = e := by
  unfold State.expected State.judgedReversed
  split
  case isTrue hjudged =>
    obtain ⟨hseen, hallowed⟩ := Bool.and_eq_true_iff.1 hjudged
    exact (hreversed hseen hallowed).symm
  case isFalse hjudged =>
    refine (hdrawn ?_).symm
    rw [Bool.and_eq_true_iff, not_and_or] at hjudged
    exact hjudged.imp_right Bool.eq_false_of_not_eq_true

-- ==== The untested reasons (R144) ====

theorem SlotRecord.not_active_of_isLost {r : SlotRecord} (h : r.isLost = true) : r.state ≠ .active := by
  intro hactive
  simp [SlotRecord.isLost, hactive] at h

section Untested

variable {rx tx : SlotRecord} {rxLane txLane : Nat}

theorem untestedReason_noRxProbe (hrx : rx.state ≠ .active) (hlost : rx.isLost = false) :
    untestedReason rx tx rxLane txLane = some .noRxProbe := by
  simp [untestedReason, SlotRecord.receives, hrx, hlost]

theorem untestedReason_rxLost (hlost : rx.isLost = true) : untestedReason rx tx rxLane txLane = some .rxLost := by
  simp [untestedReason, SlotRecord.receives, SlotRecord.not_active_of_isLost hlost, hlost]

theorem untestedReason_rxLaneAbsent (hrx : rx.state = .active) (habsent : rx.laneCount ≤ rxLane) :
    untestedReason rx tx rxLane txLane = some .rxLaneAbsent := by
  simp [untestedReason, SlotRecord.receives, hrx, habsent]

theorem untestedReason_noTxProbe (hrx : rx.state = .active) (hlane : rxLane < rx.laneCount)
    (htx : tx.activated = false) : untestedReason rx tx rxLane txLane = some .noTxProbe := by
  simp [untestedReason, SlotRecord.receives, hrx, hlane.not_ge, htx]

theorem untestedReason_txLaneAbsent (hrx : rx.state = .active) (hlane : rxLane < rx.laneCount)
    (htx : tx.activated = true) (habsent : tx.laneCount ≤ txLane) :
    untestedReason rx tx rxLane txLane = some .txLaneAbsent := by
  simp [untestedReason, SlotRecord.receives, hrx, hlane.not_ge, htx, habsent]

theorem untestedReason_none (hrx : rx.state = .active) (hlane : rxLane < rx.laneCount) (htx : tx.activated = true)
    (hdrive : txLane < tx.laneCount) : untestedReason rx tx rxLane txLane = none := by
  simp [untestedReason, SlotRecord.receives, hrx, hlane.not_ge, htx, hdrive.not_ge]

end Untested

theorem State.judgeLane_of_untested {s : State} {l : Link} {i : Nat} {why : UntestedReason}
    (h : s.laneUntested l i = some why) : s.judgeLane l i = { outcome := .untested, reason := some why } := by
  rw [State.judgeLane, h]

theorem State.judgeLane_of_tested {s : State} {l : Link} {i : Nat} (h : s.laneUntested l i = none) :
    s.judgeLane l i = judgeTested l (s.classes.get l.lossClass) (s.laneRecord l i) (s.hearing.get (s.expected l i))
      (s.expected l i) := by
  rw [State.judgeLane, h]

-- ==== The lanes with no heard endpoint (R145) ====

section Tested

variable {l : Link} {k : ClassRecord} {o : Observation} {h : Hearers} {expected heard : Nat} {inverted : Bool}

theorem judgeTested_of_unsettled (hset : o.settled = none) :
    judgeTested l k o h expected = { outcome := unsettledOutcome o } := by
  rw [judgeTested, hset]

theorem unsettledOutcome_open (hlock : o.lockSeen = false) : unsettledOutcome o = .open := by
  simp [unsettledOutcome, hlock]

theorem unsettledOutcome_garbled (hlock : o.lockSeen = true) (hvalid : o.validSeen = false) :
    unsettledOutcome o = .garbled := by
  simp [unsettledOutcome, hlock, hvalid]

theorem unsettledOutcome_unstable (hlock : o.lockSeen = true) (hvalid : o.validSeen = true) :
    unsettledOutcome o = .unstable := by
  simp [unsettledOutcome, hlock, hvalid]

theorem judgeTested_of_stale {x : Settled} (hset : o.settled = some x) (hcls : x.cls = .stale) :
    judgeTested l k o h expected = { outcome := .stale } := by
  simp only [judgeTested, hset, hcls]

/-- A lane settled DIRECT or INVERTED goes on to the checks of what it heard. -/
theorem judgeTested_of_heard {x : Settled} (hset : o.settled = some x) (hcls : x.cls ≠ .stale) :
    judgeTested l k o h expected = judgeHeard l k o h expected x.heard (decide (x.cls = .inverted)) := by
  simp only [judgeTested, hset]
  cases hx : x.cls with
  | direct => rfl
  | inverted => rfl
  | stale => exact absurd hx hcls

-- ==== The lanes that hear another endpoint or share theirs (R146, R147) ====

theorem judgeHeard_order (hne : heard ≠ expected) (hcovers : l.coversTx heard = true) :
    judgeHeard l k o h expected heard inverted = { outcome := .order } := by
  simp [judgeHeard, hne, hcovers]

theorem judgeHeard_misrouted (hne : heard ≠ expected) (hcovers : ¬ l.coversTx heard = true) :
    judgeHeard l k o h expected heard inverted = { outcome := .misrouted } := by
  simp [judgeHeard, hne, hcovers]

theorem Hearers.bridged_iff {h : Hearers} : h.bridged = true ↔ 2 ≤ h.list.length ∨ h.overflow = true := by
  simp [Hearers.bridged]

theorem judgeHeard_bridged (heq : heard = expected) (hbridged : h.bridged = true) :
    judgeHeard l k o h expected heard inverted = { outcome := .bridged } := by
  simp [judgeHeard, heq, hbridged]

theorem judgeHeard_of_alone (heq : heard = expected) (halone : ¬ h.bridged = true) :
    judgeHeard l k o h expected heard inverted = judgeSteady l k o inverted := by
  simp [judgeHeard, heq, halone]

-- ==== The lanes on their expected endpoint (R148, R149) ====

theorem judgeSteady_unstable (hdrop : 0 < o.dropouts) : judgeSteady l k o inverted = { outcome := .unstable } :=
  if_pos hdrop

theorem judgeSteady_polarity (hdrop : o.dropouts = 0) (hinv : inverted = true) (hpol : l.polarity = false) :
    judgeSteady l k o inverted = { outcome := .polarity } := by
  simp [judgeSteady, hdrop, hinv, hpol]

theorem judgeSteady_errorStage (hdrop : o.dropouts = 0) (hok : inverted = false ∨ l.polarity = true) :
    judgeSteady l k o inverted =
      { outcome := outcomeByMargin o.figure o.errors k, invertedOk := inverted, judged := true } := by
  obtain hdirect | hpol := hok
  · simp [judgeSteady, hdrop, hdirect]
  · simp [judgeSteady, hdrop, hpol]

-- ==== What every tested lane's judgement keeps to (R150, R151) ====

/-- A verdict that a lane can have: SKEW is a link's (R136), UNPLANNED an endpoint's (R154). -/
structure Verdict.OfLane (v : Verdict) : Prop where
  notSkew      : v ≠ .skew
  notUnplanned : v ≠ .unplanned

/-- A judgement of a tested lane: it gives no untested reason, and its outcome is one a lane can have. -/
structure LaneJudgement.OfTested (j : LaneJudgement) : Prop where
  reason  : j.reason = none
  outcome : j.outcome.OfLane

theorem outcomeByMargin_ofLane (q e : Nat) (k : ClassRecord) : (outcomeByMargin q e k).OfLane := by
  unfold outcomeByMargin
  repeat' split
  all_goals exact ⟨nofun, nofun⟩

theorem unsettledOutcome_ofLane (o : Observation) : (unsettledOutcome o).OfLane := by
  unfold unsettledOutcome
  repeat' split
  all_goals exact ⟨nofun, nofun⟩

theorem judgeSteady_ofTested : (judgeSteady l k o inverted).OfTested := by
  unfold judgeSteady
  split
  case isTrue => exact ⟨rfl, nofun, nofun⟩
  case isFalse =>
    split
    case isTrue => exact ⟨rfl, nofun, nofun⟩
    case isFalse => exact ⟨rfl, outcomeByMargin_ofLane _ _ _⟩

theorem judgeHeard_ofTested : (judgeHeard l k o h expected heard inverted).OfTested := by
  by_cases heq : heard = expected
  · by_cases hbridged : h.bridged = true
    · rw [judgeHeard_bridged heq hbridged]
      exact ⟨rfl, nofun, nofun⟩
    · rw [judgeHeard_of_alone heq hbridged]
      exact judgeSteady_ofTested
  · by_cases hcovers : l.coversTx heard = true
    · rw [judgeHeard_order heq hcovers]
      exact ⟨rfl, nofun, nofun⟩
    · rw [judgeHeard_misrouted heq hcovers]
      exact ⟨rfl, nofun, nofun⟩

theorem judgeTested_ofTested : (judgeTested l k o h expected).OfTested := by
  cases hset : o.settled with
  | none =>
    rw [judgeTested_of_unsettled hset]
    exact ⟨rfl, unsettledOutcome_ofLane o⟩
  | some x =>
    by_cases hstale : x.cls = .stale
    · rw [judgeTested_of_stale hset hstale]
      exact ⟨rfl, nofun, nofun⟩
    · rw [judgeTested_of_heard hset hstale]
      exact judgeHeard_ofTested

end Tested

theorem State.judgeLane_outcome_ofLane (s : State) (l : Link) (i : Nat) : (s.judgeLane l i).outcome.OfLane := by
  cases hwhy : s.laneUntested l i with
  | some why =>
    rw [State.judgeLane_of_untested hwhy]
    exact ⟨nofun, nofun⟩
  | none =>
    rw [State.judgeLane_of_tested hwhy]
    exact judgeTested_ofTested.outcome

-- ==== The checks in their order ====

/-- Settles O49: the checks in their order, each by its own lemma once the expected endpoint is the engine's. -/
theorem laneChecks : Obligations.LaneChecks := by
  rintro s l i expected _ _ o _ seen early j - rfl rfl ho hseen hreversed hdrawn rfl hj hearly
  obtain rfl : seen = (s.reversalSeen l = true) := propext (hseen.trans State.reversalSeen_iff.symm)
  obtain rfl : s.expected l i = expected := State.expected_eq hreversed hdrawn
  have untested {why : UntestedReason} (h : s.laneUntested l i = some why) :
      j.outcome = .untested ∧ j.reason = some why ∧ early := by
    rw [hearly, ← hj, State.judgeLane_of_untested h]
    exact ⟨rfl, rfl, rfl, rfl⟩
  refine ⟨fun hrx hlost => untested (untestedReason_noRxProbe hrx hlost),
    fun hlost => untested (untestedReason_rxLost hlost),
    fun hrx habsent => untested (untestedReason_rxLaneAbsent hrx habsent),
    fun hrx hlane htx => untested (untestedReason_noTxProbe hrx hlane htx),
    fun hrx hlane htx habsent => untested (untestedReason_txLaneAbsent hrx hlane htx habsent),
    fun hrx hlane htx hdrive => ?tested⟩
  case tested =>
    have ho' : s.laneRecord l i = o := ho
    have htested := State.judgeLane_of_tested (untestedReason_none hrx hlane htx hdrive : s.laneUntested l i = none)
    rw [hj, ho'] at htested
    have earlyAs {v : Verdict} (h : j = { outcome := v }) : j.outcome = v ∧ early := by
      rw [hearly, h]
      exact ⟨rfl, rfl, rfl⟩
    have unsettledAs {v : Verdict} (hset : o.settled = none) (h : unsettledOutcome o = v) : j.outcome = v ∧ early :=
      earlyAs (by rw [htested, judgeTested_of_unsettled hset, h])
    refine ⟨htested ▸ judgeTested_ofTested.reason,
      fun hset hlock => unsettledAs hset (unsettledOutcome_open hlock),
      fun hset hlock hvalid => unsettledAs hset (unsettledOutcome_garbled hlock hvalid),
      fun hset hlock hvalid => unsettledAs hset (unsettledOutcome_unstable hlock hvalid),
      fun x hset => ⟨fun hstale => earlyAs (htested.trans (judgeTested_of_stale hset hstale)), fun hheard => ?heard⟩⟩
    case heard =>
      rw [judgeTested_of_heard hset hheard] at htested
      refine ⟨fun hne hlow hhigh => earlyAs (htested.trans (judgeHeard_order hne (Link.coversTx_iff.2 ⟨hlow, hhigh⟩))),
        fun hne hout => earlyAs (htested.trans (judgeHeard_misrouted hne (mt Link.coversTx_iff.1 hout))),
        fun heq hbridged => earlyAs (htested.trans (judgeHeard_bridged heq (Hearers.bridged_iff.2 hbridged))),
        fun heq hfew hover => ?alone⟩
      case alone =>
        have halone : ¬ (s.hearing.get (s.expected l i)).bridged = true := by
          rw [Hearers.bridged_iff]
          simp [hfew, hover]
        rw [judgeHeard_of_alone heq halone] at htested
        refine ⟨fun hdrop => earlyAs (htested.trans (judgeSteady_unstable hdrop)),
          fun hdrop hinv hpol => earlyAs (htested.trans (judgeSteady_polarity hdrop (decide_eq_true hinv) hpol)),
          fun hdrop hok => ?errorStage⟩
        case errorStage =>
          have hok' : decide (x.cls = .inverted) = false ∨ l.polarity = true :=
            hok.imp_left fun hdirect => by simp [hdirect]
          rw [htested, judgeSteady_errorStage hdrop hok']
          exact ⟨rfl, rfl, rfl⟩

end Sys2Proof.Machine
end

section
/-!
The verdict record of a link: the fold over its lane outcomes gives the most severe of them, the worst lane is the lowest
that meets its condition, and each note is written for a lane that asks for it (R150–R152).
-/

namespace Sys2Proof.Machine

-- ==== The most severe verdict (R150) ====

theorem moreSevere_eq_or (a b : Verdict) : moreSevere a b = a ∨ moreSevere a b = b := by
  unfold moreSevere
  split
  · exact .inl rfl
  · exact .inr rfl

theorem moreSevere_code_le (a b : Verdict) :
    (moreSevere a b).code ≤ a.code ∧ (moreSevere a b).code ≤ b.code := by
  unfold moreSevere
  split
  · exact ⟨le_rfl, ‹_›⟩
  · exact ⟨by omega, le_rfl⟩

theorem foldl_moreSevere_mem (a : Verdict) (l : List Verdict) : l.foldl moreSevere a = a ∨ l.foldl moreSevere a ∈ l := by
  induction l generalizing a with
  | nil => exact .inl rfl
  | cons b l ih =>
    obtain hstart | hlater := ih (moreSevere a b)
    · rw [List.foldl_cons, hstart]
      exact (moreSevere_eq_or a b).imp_right fun h => List.mem_cons.2 (.inl h)
    · exact .inr (List.mem_cons_of_mem b hlater)

theorem foldl_moreSevere_code_le (a : Verdict) (l : List Verdict) :
    (l.foldl moreSevere a).code ≤ a.code ∧ ∀ v ∈ l, (l.foldl moreSevere a).code ≤ v.code := by
  induction l generalizing a with
  | nil => exact ⟨le_rfl, nofun⟩
  | cons b l ih =>
    obtain ⟨hstart, hlater⟩ := ih (moreSevere a b)
    obtain ⟨ha, hb⟩ := moreSevere_code_le a b
    exact ⟨hstart.trans ha, List.forall_mem_cons.2 ⟨hstart.trans hb, hlater⟩⟩

section LinkVerdict

variable {outcomes : List Verdict} {skew : Bool}

theorem linkVerdict_code_le {v : Verdict} (h : v ∈ outcomes) : (linkVerdict outcomes skew).code ≤ v.code :=
  (foldl_moreSevere_code_le _ outcomes).2 v h

theorem linkVerdict_code_le_skew (h : skew = true) : (linkVerdict outcomes skew).code ≤ Verdict.skew.code := by
  subst h
  exact (foldl_moreSevere_code_le .skew outcomes).1

/-- PASS is the least severe verdict that a lane can have. -/
theorem Verdict.OfLane.eq_pass {v : Verdict} (h : v.OfLane) (hcode : Verdict.pass.code ≤ v.code) : v = .pass := by
  obtain ⟨_, hunplanned⟩ := h
  cases v <;> simp_all [Verdict.code]

/-- PASS, which the fold starts from without a SKEW outcome, stands only where some lane passed. -/
theorem linkVerdict_attained (hne : outcomes ≠ []) (hlane : ∀ v ∈ outcomes, v.OfLane) :
    linkVerdict outcomes skew ∈ outcomes ∨ (skew = true ∧ linkVerdict outcomes skew = .skew) := by
  obtain hstart | hlater := foldl_moreSevere_mem (if skew then .skew else .pass) outcomes
  · cases hskew : skew with
    | true => exact .inr ⟨rfl, by simpa [linkVerdict, hskew] using hstart⟩
    | false =>
      obtain ⟨v, hv⟩ := List.exists_mem_of_ne_nil outcomes hne
      have hpass : linkVerdict outcomes false = .pass := by simpa [linkVerdict, hskew] using hstart
      have hleast : v = .pass := (hlane v hv).eq_pass (hpass ▸ linkVerdict_code_le hv)
      exact .inl (by rwa [hpass, ← hleast])
  · exact .inl hlater

end LinkVerdict

-- ==== The lowest lane that meets a condition (R151) ====

/-- Where some lane meets a condition, the lowest lane is below the width, meets it, and no lower lane does. -/
theorem lowestLane_map_range {α : Type} {p : α → Bool} {f : Nat → α} {n : Nat} (h : ∃ i, i < n ∧ p (f i) = true) :
    lowestLane p ((List.range n).map f) < n ∧ p (f (lowestLane p ((List.range n).map f))) = true ∧
      ∀ i, i < lowestLane p ((List.range n).map f) → p (f i) = false := by
  cases hfirst : firstFrom (fun _ a => p a) 0 ((List.range n).map f) with
  | none =>
    obtain ⟨i, hi, hp⟩ := h
    have hnot := firstFrom_eq_none.1 hfirst i (by simpa using hi)
    simp [hp] at hnot
  | some w =>
    obtain ⟨-, hlen, hp, hlow⟩ := firstFrom_eq_some hfirst
    have hw : lowestLane p ((List.range n).map f) = w := by rw [lowestLane, hfirst, Option.getD_some]
    rw [hw]
    exact ⟨by simpa using hlen, by simpa using hp, fun i hi => by simpa using hlow i hi⟩

-- ==== The lanes whose average is extreme (R151) ====

theorem mem_sampledAverages {lanes : List Observation} {z : Int} :
    z ∈ sampledAverages lanes ↔ ∃ o ∈ lanes, o.average = some z :=
  List.mem_filterMap

/-- A lane of the link is extreme when its average bounds all of them. -/
theorem atExtreme_iff {lanes : List Observation} {o : Observation} (ho : o ∈ lanes) {z : Int} (hz : o.average = some z) :
    atExtreme lanes o = true ↔ (∀ y ∈ sampledAverages lanes, y ≤ z) ∨ ∀ y ∈ sampledAverages lanes, z ≤ y := by
  have hmem : z ∈ sampledAverages lanes := mem_sampledAverages.2 ⟨o, ho, hz⟩
  match hsampled : sampledAverages lanes with
  | [] => simp [hsampled] at hmem
  | a :: l =>
    rw [hsampled] at hmem
    obtain ⟨htop, hle⟩ := largest_spec a l
    obtain ⟨hbottom, hge⟩ := smallest_spec a l
    have hlargest : z = largest a l ↔ ∀ y ∈ a :: l, y ≤ z :=
      ⟨fun h => h ▸ hle, fun h => le_antisymm (hle z hmem) (h _ htop)⟩
    have hsmallest : z = smallest a l ↔ ∀ y ∈ a :: l, z ≤ y :=
      ⟨fun h => h ▸ hge, fun h => le_antisymm (h _ hbottom) (hge z hmem)⟩
    rw [← hlargest, ← hsmallest]
    simp [atExtreme, hsampled, hz]

/-- A link with a skew has a lane with the largest average. -/
theorem exists_atExtreme {lanes : List Observation} {k : Nat} (h : linkSkew lanes = some k) :
    ∃ o ∈ lanes, atExtreme lanes o = true := by
  obtain ⟨_, z, hz, _, _, hends, _⟩ := linkSkew_eq_some_iff.1 h
  obtain ⟨o, ho, haverage⟩ := mem_sampledAverages.1 hz
  exact ⟨o, ho, (atExtreme_iff ho haverage).2 (.inl fun y hy => (hends y hy).2)⟩

theorem average_of_atExtreme {lanes : List Observation} {o : Observation} (h : atExtreme lanes o = true) :
    ∃ z, o.average = some z := by
  unfold atExtreme at h
  split at h
  case h_1 z _ haverage => exact ⟨z, haverage⟩
  case h_2 => cases h

-- ==== The lanes of a link in its verdict record (R151, R152) ====

section Evaluate

variable {s : State} {l : Link}

theorem evaluate_verdict : (s.evaluate l).verdict =
    linkVerdict ((l.lanes.map (s.judgeLane l)).map LaneJudgement.outcome)
      (skewExceeded l.budget (linkSkew (s.laneRecords l))) := rfl

theorem mem_laneOutcomes {v : Verdict} :
    v ∈ (l.lanes.map (s.judgeLane l)).map LaneJudgement.outcome ↔ ∃ i, i < l.width ∧ (s.judgeLane l i).outcome = v := by
  simp [Link.lanes]

theorem mem_laneRecords {o : Observation} : o ∈ s.laneRecords l ↔ ∃ i, i < l.width ∧ s.laneRecord l i = o := by
  simp [State.laneRecords, Link.lanes]

theorem laneRecords_getD {i : Nat} (h : i < l.width) : (s.laneRecords l).getD i {} = s.laneRecord l i := by
  simp [State.laneRecords, Link.lanes, h]

theorem evaluate_verdict_code_le {i : Nat} (h : i < l.width) :
    (s.evaluate l).verdict.code ≤ (s.judgeLane l i).outcome.code :=
  linkVerdict_code_le (mem_laneOutcomes.2 ⟨i, h, rfl⟩)

theorem evaluate_verdict_attained (hwidth : 1 ≤ l.width) :
    (∃ i, i < l.width ∧ (s.judgeLane l i).outcome = (s.evaluate l).verdict) ∨
      (skewExceeded l.budget (linkSkew (s.laneRecords l)) = true ∧ (s.evaluate l).verdict = .skew) := by
  rw [← mem_laneOutcomes, evaluate_verdict]
  refine linkVerdict_attained (List.ne_nil_of_mem (mem_laneOutcomes.2 ⟨0, hwidth, rfl⟩)) fun v hv => ?_
  obtain ⟨i, -, rfl⟩ := mem_laneOutcomes.1 hv
  exact s.judgeLane_outcome_ofLane l i

theorem skewExceeded_of_verdict (hwidth : 1 ≤ l.width) (h : (s.evaluate l).verdict = .skew) :
    skewExceeded l.budget (linkSkew (s.laneRecords l)) = true := by
  obtain ⟨i, -, hi⟩ | ⟨hskew, -⟩ := evaluate_verdict_attained (s := s) hwidth
  · exact absurd (hi.trans h) (s.judgeLane_outcome_ofLane l i).notSkew
  · exact hskew

theorem evaluate_worstLane_of_lane (hwidth : 1 ≤ l.width) (h : (s.evaluate l).verdict ≠ .skew) :
    (s.evaluate l).worstLane < l.width ∧
      (s.judgeLane l (s.evaluate l).worstLane).outcome = (s.evaluate l).verdict ∧
      ∀ i, i < (s.evaluate l).worstLane → (s.judgeLane l i).outcome ≠ (s.evaluate l).verdict := by
  have hworst : (s.evaluate l).worstLane =
      lowestLane (fun j => j.outcome == (s.evaluate l).verdict) ((List.range l.width).map (s.judgeLane l)) := if_neg h
  obtain ⟨i, hi, hattained⟩ := (evaluate_verdict_attained hwidth).resolve_right fun hskew => h hskew.2
  obtain ⟨hlt, hmeets, hlow⟩ := lowestLane_map_range (p := fun j : LaneJudgement => j.outcome == (s.evaluate l).verdict)
    ⟨i, hi, beq_iff_eq.2 hattained⟩
  rw [← hworst] at hlt hmeets hlow
  exact ⟨hlt, beq_iff_eq.1 hmeets, fun i hi => by simpa using hlow i hi⟩

theorem evaluate_worstLane_of_skew (hwidth : 1 ≤ l.width) (h : (s.evaluate l).verdict = .skew) :
    (s.evaluate l).worstLane < l.width ∧
      atExtreme (s.laneRecords l) (s.laneRecord l (s.evaluate l).worstLane) = true ∧
      ∀ i, i < (s.evaluate l).worstLane → atExtreme (s.laneRecords l) (s.laneRecord l i) = false := by
  have hworst : (s.evaluate l).worstLane =
      lowestLane (atExtreme (s.laneRecords l)) ((List.range l.width).map (s.laneRecord l)) := if_pos h
  obtain ⟨_, k, -, hskew, -⟩ := skewExceeded_iff.1 (skewExceeded_of_verdict hwidth h)
  obtain ⟨_, ho, hextreme⟩ := exists_atExtreme hskew
  obtain ⟨i, hi, rfl⟩ := mem_laneRecords.1 ho
  rw [hworst]
  exact lowestLane_map_range ⟨i, hi, hextreme⟩

theorem evaluate_reason_of_untested (hwidth : 1 ≤ l.width) (h : (s.evaluate l).verdict = .untested) :
    (s.evaluate l).reason = (s.judgeLane l (s.evaluate l).worstLane).reason := by
  obtain ⟨hlt, -, -⟩ := evaluate_worstLane_of_lane (s := s) hwidth (by simp [h])
  have hreason : (s.evaluate l).reason =
      ((l.lanes.map (s.judgeLane l)).getD (s.evaluate l).worstLane default).reason := if_pos h
  simpa [Link.lanes, hlt] using hreason

theorem evaluate_reason_of_tested (h : (s.evaluate l).verdict ≠ .untested) : (s.evaluate l).reason = none :=
  if_neg h

theorem evaluate_invertedOk_iff :
    (s.evaluate l).notes.invertedOk = true ↔ ∃ i, i < l.width ∧ (s.judgeLane l i).invertedOk = true := by
  simp [State.evaluate, verdictOf, linkNotes, Link.lanes]

theorem evaluate_saturated_iff :
    (s.evaluate l).notes.saturated = true ↔ ∃ i, i < l.width ∧
      (0 < (s.laneRecord l i).units ∨ (s.judgeLane l i).judged = true) ∧
        ((s.laneRecord l i).unitsSaturated = true ∨ (s.laneRecord l i).errorsSaturated = true) := by
  simp [State.evaluate, verdictOf, linkNotes, State.laneRecords, Link.lanes, List.zip_map', computedFigure,
    Observation.saturated]

end Evaluate

/-- The lane of a link with verdict SKEW: its average is extreme, and every lower lane's lies strictly between two others. -/
theorem atExtreme_lowest {s : State} {l : Link} {w : Nat} (hw : w < l.width)
    (hextreme : atExtreme (s.laneRecords l) (s.laneRecord l w) = true)
    (hlow : ∀ i, i < w → atExtreme (s.laneRecords l) (s.laneRecord l i) = false) :
    ∃ z, ((s.laneRecords l).getD w {}).average = some z ∧
      ((∀ o ∈ s.laneRecords l, ∀ y, o.average = some y → y ≤ z) ∨
        (∀ o ∈ s.laneRecords l, ∀ y, o.average = some y → z ≤ y)) ∧
      ∀ i, i < w → ∀ y, ((s.laneRecords l).getD i {}).average = some y →
        (∃ o ∈ s.laneRecords l, ∃ a, o.average = some a ∧ y < a) ∧
          ∃ o ∈ s.laneRecords l, ∃ a, o.average = some a ∧ a < y := by
  have hmem {i : Nat} (hi : i < l.width) : s.laneRecord l i ∈ s.laneRecords l := mem_laneRecords.2 ⟨i, hi, rfl⟩
  obtain ⟨z, hz⟩ := average_of_atExtreme hextreme
  refine ⟨z, by rw [laneRecords_getD hw, hz], ?bounds, fun i hi y hy => ?between⟩
  case bounds =>
    refine ((atExtreme_iff (hmem hw) hz).1 hextreme).imp ?_ ?_
    all_goals exact fun h o ho y hy => h y (mem_sampledAverages.2 ⟨o, ho, hy⟩)
  case between =>
    have hiw : i < l.width := hi.trans hw
    rw [laneRecords_getD hiw] at hy
    have hnot := mt (atExtreme_iff (hmem hiw) hy).2 (Bool.not_eq_true _ ▸ hlow i hi)
    simp only [not_or, not_forall, mem_sampledAverages, not_le, exists_prop] at hnot
    obtain ⟨⟨a, ⟨o, ho, ha⟩, habove⟩, b, ⟨p, hp, hb⟩, hbelow⟩ := hnot
    exact ⟨⟨o, ho, a, ha, habove⟩, p, hp, b, hb, hbelow⟩

/-- Settles O50: the fold's result is attained and least, and each field of the record by its own lemma. -/
theorem linkVerdictIsMostSevere : Obligations.LinkVerdictIsMostSevere := by
  rintro s l _ lanes skew hwidth rfl hlanes rfl
  obtain rfl : lanes = s.laneRecords l := hlanes
  refine ⟨rfl, evaluate_verdict_attained hwidth, fun i => evaluate_verdict_code_le, linkVerdict_code_le_skew,
    evaluate_worstLane_of_lane hwidth, fun hverdict => ?skew, evaluate_reason_of_untested hwidth,
    evaluate_reason_of_tested, rfl, rfl, rfl, evaluate_invertedOk_iff, ?saturated⟩
  case skew =>
    obtain ⟨hw, hextreme, hlow⟩ := evaluate_worstLane_of_skew hwidth hverdict
    exact atExtreme_lowest hw hextreme hlow
  case saturated =>
    refine evaluate_saturated_iff.trans (exists_congr fun i => ?_)
    constructor
    · exact fun ⟨hi, h⟩ => ⟨s.laneRecord l i, hi, rfl, h⟩
    · rintro ⟨_, hi, rfl, h⟩
      exact ⟨hi, h⟩

end Sys2Proof.Machine
end

section
/-!
STATUS (R85, R188): the bytes of the sweep status item by item, the owing slot set slot by slot, and the two classes of source
that may ask for it.
-/

namespace Sys2Proof.Machine

-- ==== The items of the sweep status (R188) ====

/-- A number of two bytes (R189). -/
theorem be_two (k : Nat) : be 2 k = twoBytes k := by
  simp [be, byte, twoBytes]

/-- A set of slots is three bytes, most significant first (R188). -/
theorem slotSet_eq (x : SlotSet) : slotSet x = [byte (x.toNat / 65536), byte (x.toNat / 256), byte x.toNat] := by
  simp [slotSet, be, byte]

/-- The presence bits stand at different places, so that joining them adds them. -/
theorem presenceByte_eq (s0 m0 position : Option Nat) :
    presenceByte s0 m0 position =
      byte ((if s0.isSome then 1 else 0) + (if m0.isSome then 2 else 0) + (if position.isSome then 4 else 0)) := by
  unfold presenceByte
  cases s0.isSome <;> cases m0.isSome <;> cases position.isSome <;> rfl

theorem State.lostCount_eq (s : State) : s.lostCount =
    s.slots.entries.countP fun r => r.state = .lost ∨ (r.state = .conflict ∧ r.lostByConflict = true) := by
  have hlost : SlotRecord.isLost =
      fun r => decide (r.state = .lost ∨ (r.state = .conflict ∧ r.lostByConflict = true)) := by
    funext r
    rw [Bool.eq_iff_iff]
    simp [SlotRecord.isLost]
  rw [State.lostCount, Table.count, hlost]

theorem State.statusPayload_length (s : State) : s.statusPayload.length = 28 := by
  simp [State.statusPayload, slotSet, yesNo, be_length]

-- ==== The owing slot set (R36, R188) ====

/-- Bit `k` of a set counted from slot `i` is entry `k - i` of the list. -/
theorem slotSetFrom_getLsbD (l : List Bool) (i k : Nat) (hk : k < 24) :
    (slotSetFrom i l).getLsbD k = (decide (i ≤ k) && l.getD (k - i) false) := by
  induction l generalizing i with
  | nil => simp [slotSetFrom]
  | cons b l ih =>
    rw [slotSetFrom, BitVec.getLsbD_or, ih]
    obtain hlt | rfl | hgt := Nat.lt_trichotomy i k
    · have hrest : k - i = (k - (i + 1)) + 1 := by omega
      have hbit : (if b then BitVec.twoPow 24 i else 0).getLsbD k = false := by
        cases b <;> simp [BitVec.getLsbD_twoPow, hlt.ne]
      rw [hbit, hrest, List.getD_cons_succ]
      simp [hlt.le, Nat.succ_le_of_lt hlt]
    · cases b <;> simp [hk]
    · have hbit : (if b then BitVec.twoPow 24 i else 0).getLsbD k = false := by
        cases b <;> simp [BitVec.getLsbD_twoPow, hgt.ne']
      rw [hbit]
      simp [hgt.not_ge, (hgt.trans (Nat.lt_succ_self i)).not_ge]

theorem State.owingSet_getLsbD (s : State) {k : Nat} (hk : k < 24) :
    s.owingSet.getLsbD k = (s.slots.get k).owing := by
  have hlen : k < s.slots.entries.length := by rw [s.slots.size_eq]; exact hk
  rw [State.owingSet, slotSetFrom_getLsbD _ 0 k hk]
  simp [Table.get, hlen]

-- ==== The answer to STATUS (R85, R171) ====

/-- A source id other than 0 is of one of the two classes, and STATUS is for both (R181, R184). -/
theorem permits_both_of_ne_zero {src : SourceId} (h : src ≠ 0) : RequesterClass.both.permits src = true := by
  have hpos : src.toNat ≠ 0 := fun hz => h (BitVec.eq_of_toNat_eq hz)
  simp only [RequesterClass.permits, isProbe, isStation, Bool.or_eq_true, Bool.and_eq_true, decide_eq_true_eq]
  omega

theorem exec_status {s t : State} {rq : Requester} (h : s.Listening) (hsource : rq.source ≠ 0)
    (hseen : (if isStation rq.source then s.quietLines.setSeen else s.quietLines) = t.quietLines) :
    exec (.status rq) s = .next (t.answered rq .ok s.statusPayload) := by
  have hbody : (statusEntry rq.source).body s.quietLines = accept s.statusPayload t.quietLines :=
    congrArg (accept s.statusPayload) hseen
  exact congrArg Host.Outcome.next
    (State.deliver_taken h (by decide) (permits_both_of_ne_zero hsource) rfl hbody rfl)

/-- Settles O37: the 28 bytes item by item, and the class of the source decides whether the state has been seen. -/
theorem statusReply : Obligations.StatusReply := by
  intro s rq status hlisten hsource hstatus
  have hpayload : s.statusPayload = status := by
    rw [hstatus]
    simp only [State.statusPayload, be_one, be_two, slotSet_eq, presenceByte_eq, State.lostCount_eq]
    simp only [List.cons_append, List.nil_append, twoBytes, yesNo, List.cons.injEq, true_and, and_true]
    refine ⟨?sweep, ?resume, rfl, rfl, rfl, ?quietCall, ?abortCause, ?stage⟩
    case sweep => cases s.seq.sweep <;> rfl
    case resume =>
      cases s.seq.sweep with
      | stopped phase => cases phase <;> rfl
      | _ => rfl
    case quietCall => cases s.seq.quietCall <;> rfl
    case abortCause => cases s.seq.abortCause <;> rfl
    case stage => cases s.cursor.stage <;> rfl
  refine ⟨hpayload ▸ s.statusPayload_length, hpayload, fun k hk => s.owingSet_getLsbD hk, fun hprobe => ?fromProbe,
    fun hstation => ?fromStation⟩
  case fromProbe =>
    have hclass : isStation rq.source = false := decide_eq_false (Nat.not_le.2 hprobe)
    exact hpayload ▸ exec_status hlisten hsource (by rw [hclass]; rfl)
  case fromStation =>
    have hclass : isStation rq.source = true := decide_eq_true hstation
    exact hpayload ▸ exec_status (t := { s with stateSeen := true }) hlisten hsource (by rw [hclass]; rfl)

end Sys2Proof.Machine
end

section
/-!
Refusals and CONFLICT (R24, R185): a frame with ENROL's code makes a slot CONFLICT, whichever command it came by.
-/

namespace Sys2Proof.Machine

-- ==== ENROL's frame under another command (R181) ====

/-- The two commands carry one frame, and a frame is judged by its code and its payload. -/
theorem exec_unknownRequest_enrol (rq : Requester) (slot lanes : Byte) (s : State) :
    exec (.unknownRequest rq 0x01 [slot, lanes]) s = exec (.enrol rq slot lanes) s :=
  (Laws.Routed.enrol rq slot lanes rfl rq 0x01 [slot, lanes] rfl s).symm

-- ==== ENROL from another source (R24) ====

theorem enrolOther_enrolled {src : SourceId} {slot : Nat} {r : SlotRecord} {s : State} (h : r.state = .enrolled) :
    enrolOther src slot r s = { state := s.setSlot slot (r.contested src), result := .conflict } := by
  simp [enrolOther, h]

theorem State.FromProbe.exec_enrol_contest {s : State} {rq : Requester} (hrq : s.FromProbe rq) {slot lanes : Byte}
    (hslot : slot.toNat ≤ 23) (hlow : 1 ≤ lanes.toNat) (hhigh : lanes.toNat ≤ 32)
    (hfree : ∀ j, j ≠ slot.toNat → (s.slots.get j).holds rq.source = false)
    (ha : (s.slots.get slot.toNat).source ≠ some rq.source) (hr : (s.slots.get slot.toNat).state = .enrolled) :
    exec (.enrol rq slot lanes) s =
      .next (State.answered (s.setSlot slot.toNat ((s.slots.get slot.toNat).contested rq.source)) rq .conflict []) := by
  refine hrq.exec_enrol ?_
  rw [enrolBody_named hslot hlow hhigh (s := s.quietLines) hfree, State.quietLines_slots, enrolNamed,
    if_neg (by simp [hr]), if_neg ha, enrolOther_enrolled hr]
  rfl

-- ==== A slot contested by an UNKNOWN_REQUEST ====

/-- Slot 0 is ENROLLED by probe 1; every other slot is EMPTY. -/
def slotZeroEnrolled : State := State.reset.setSlot 0 (enrolledRecord 0x01 8 false)

theorem slotZeroEnrolled_get : slotZeroEnrolled.slots.get 0 = enrolledRecord 0x01 8 false :=
  Table.get_set_same _ (by decide) _

theorem slotZeroEnrolled_free {j : Nat} (hj : j ≠ 0) (src : SourceId) :
    (slotZeroEnrolled.slots.get j).holds src = false := by
  have hempty : slotZeroEnrolled.slots.get j = default :=
    (Table.get_set_ne _ hj.symm _).trans (Table.get_replicate_default _ j)
  rw [hempty]
  rfl

/-- The roster after probe 2 has named slot 0. -/
def slotZeroContested : State := slotZeroEnrolled.setSlot 0 ((enrolledRecord 0x01 8 false).contested 0x02)

theorem slotZeroContested_get : slotZeroContested.slots.get 0 = (enrolledRecord 0x01 8 false).contested 0x02 :=
  Table.get_set_same _ (by decide) _

/-- Probe 2 names slot 0 in a frame with ENROL's code and is answered CONFLICT. -/
theorem exec_contest_slotZero :
    exec (.unknownRequest ⟨0x02, false⟩ 0x01 [0, 1]) slotZeroEnrolled =
      .next (slotZeroContested.answered ⟨0x02, false⟩ .conflict []) := by
  have hprobe : slotZeroEnrolled.FromProbe ⟨0x02, false⟩ := ⟨⟨rfl, rfl⟩, by decide, by decide⟩
  have hsource : (slotZeroEnrolled.slots.get 0).source ≠ some 0x02 := by rw [slotZeroEnrolled_get]; decide
  have hstate : (slotZeroEnrolled.slots.get 0).state = .enrolled := by rw [slotZeroEnrolled_get]; rfl
  rw [exec_unknownRequest_enrol, slotZeroContested, ← slotZeroEnrolled_get]
  exact hprobe.exec_enrol_contest (by decide) (by decide) (by decide)
    (fun _ hj => slotZeroEnrolled_free hj 0x02) hsource hstate

theorem State.SameBlocks.slots_eq {s t : State} (h : s.SameBlocks t) : t.slots = s.slots := by
  have ht : t = { s with port := t.port, lines := t.lines } := h
  rw [ht]

/-- Refutes O15: its first clause admits as a request also an UNKNOWN_REQUEST with a code of the catalogue, which
`Instr.wellFormed` rules out. One with ENROL's code is answered CONFLICT with a change of the roster, and the command is not
the constructor of ENROL. -/
theorem not_refusalsChangeNothing : ¬ Obligations.RefusalsChangeNothing := by
  rintro ⟨hrequests, -, -⟩
  obtain ⟨t, r, hexec, hreply, -, hconflict⟩ :=
    hrequests (.unknownRequest ⟨0x02, false⟩ 0x01 [0, 1]) slotZeroEnrolled rfl ⟨rfl, rfl⟩
  obtain rfl := Host.Outcome.next.inj (exec_contest_slotZero.symm.trans hexec)
  obtain rfl := Option.some.inj hreply
  obtain hsame | ⟨_, _, _, hcommand, -⟩ := hconflict rfl
  · have hslots : slotZeroContested.slots = slotZeroEnrolled.slots := hsame.slots_eq
    have hkept : (enrolledRecord 0x01 8 false).contested 0x02 = enrolledRecord 0x01 8 false := by
      rw [← slotZeroContested_get, hslots, slotZeroEnrolled_get]
    exact absurd hkept (by decide)
  · cases hcommand

end Sys2Proof.Machine
end

section
/-!
The Finding Queue and the attention line (R156, R164, R165, R170): what the requests, an abort and the steps of the pass do to
the queue, and that every command leaves ATTN alone or makes it follow its condition.
-/

namespace Sys2Proof.Machine

-- ==== The queue stays bounded with consecutive numbers (R156, R164, R165) ====

/-- A queue that is kept, while no other finding begins to wait, stays sound. -/
theorem State.QueueOk.of_kept {s t : State} (h : s.QueueOk) (hf : t.findings = s.findings) (hn : t.nextSeq = s.nextSeq)
    (hp : s.PendingFollows t) : t.QueueOk where
  size := hf ▸ h.size
  consecutive := by rw [hf, hn]; exact h.consecutive
  waiting hw := by
    obtain ⟨f, hf'⟩ := Option.isSome_iff_exists.1 hw
    rw [hf]
    exact h.waiting (by rw [hp f hf']; rfl)

/-- An empty queue on which nothing waits is sound. -/
theorem State.QueueOk.of_empty {t : State} (hf : t.findings = []) (hp : t.cursor.pendingFinding = none) : t.QueueOk where
  size := by simp [hf]
  consecutive := ⟨t.nextSeq, by simp [hf], by simp [hf]⟩
  waiting hw := absurd hw (by simp [hp])

/-- The queue without its head is sound, once nothing waits for room in it (R167). -/
theorem State.QueueOk.release {s t : State} (h : s.QueueOk) {head : QueuedFinding} {rest : List QueuedFinding}
    (hs : s.findings = head :: rest) (hf : t.findings = rest) (hn : t.nextSeq = s.nextSeq)
    (hp : t.cursor.pendingFinding = none) : t.QueueOk ∧ t.findings.length < 64 := by
  subst hf
  have hsize := h.size
  obtain ⟨base, hseq, hnext⟩ := h.consecutive
  rw [hs, List.length_cons] at hsize hnext
  rw [hs, List.map_cons, List.length_cons, List.range'_succ] at hseq
  refine ⟨⟨by omega, ⟨base + 1, (List.cons.inj hseq).2, by omega⟩, fun hw => absurd hw (by simp [hp])⟩, by omega⟩

/-- A finding pushed into a queue with room takes the next number (R164). -/
theorem State.QueueOk.pushFinding {s : State} (h : s.QueueOk) (hroom : s.findings.length < 64) (f : Finding) :
    (s.pushFinding f).QueueOk where
  size := by simpa using hroom
  consecutive := by
    obtain ⟨base, hseq, hnext⟩ := h.consecutive
    refine ⟨base, ?_, ?_⟩
    · simp [hseq, List.range'_concat, hnext]
    · simp only [State.pushFinding_findings, State.pushFinding_nextSeq, List.length_append, List.length_singleton]
      omega
  waiting hw := absurd (h.waiting hw) (by omega)

theorem State.QueueOk.advance {s : State} (h : s.QueueOk) : s.advance.QueueOk :=
  h.of_kept (by simp) (by simp) (.of_eq s.advance_pendingFinding)

/-- A finding offered is pushed where there is room, and waits for a full queue else (R156). -/
theorem State.QueueOk.offer {s : State} (h : s.QueueOk) (f : Finding) : (s.offer f).QueueOk := by
  unfold State.offer
  split
  · rename_i hroom
    exact (h.pushFinding hroom f).advance
  · rename_i hfull
    exact ⟨h.size, h.consecutive, fun _ => Nat.le_antisymm h.size (Nat.le_of_not_lt hfull)⟩

theorem State.QueueOk.stepLink {s : State} (h : s.QueueOk) (id : Nat) (l : Link) : (s.stepLink id l).QueueOk := by
  have hwritten : (s.writeVerdict id (s.evaluate l)).QueueOk := h.of_kept rfl rfl (.of_eq rfl)
  unfold State.stepLink
  dsimp only
  split
  · exact hwritten.advance
  · exact hwritten.offer _

theorem State.QueueOk.stepUnplanned {s : State} (h : s.QueueOk) (rx : Nat) : (s.stepUnplanned rx).QueueOk := by
  unfold State.stepUnplanned
  dsimp only
  split
  · exact h.offer _
  · exact h.advance

/-- RELEASE FINDING takes the head and lets a waiting finding in; START and RESET CAMPAIGN empty the queue; no other request
touches it, and an abort may drop what waits. -/
theorem BlockWork.queueOk {src : SourceId} {s t : State} (h : BlockWork src s t) (hs : s.QueueOk) : t.QueueOk := by
  cases h with
  | releaseFinding head rest hqueue hp =>
    obtain ⟨hfreed, -⟩ := hs.release (t := { s with findings := rest }) hqueue rfl rfl hp
    exact hfreed
  | releaseAndPush head rest f hqueue hp =>
    obtain ⟨hfreed, hroom⟩ := hs.release (t := { s with
      findings := rest, cursor := { s.cursor with pendingFinding := Option.none } }) hqueue rfl rfl rfl
    exact (hfreed.pushFinding hroom f).advance
  | start => exact .of_empty rfl rfl
  | campaignReset => exact .of_empty rfl rfl
  | restartActive => exact hs.of_kept (by simp) (by simp) (State.activeFell_pending_follows _)
  | contestActive => exact hs.of_kept (by simp) (by simp) (State.activeFell_pending_follows _)
  | abort => exact hs.of_kept (by simp) (by simp) (s.abortSweep_pending_follows _)
  | _ => exact hs.of_kept (by simp) (by simp) (.of_eq (by simp))

theorem State.reset_queueOk : State.reset.QueueOk := .of_empty rfl rfl

theorem step_queueOk {s t : State} (h : step s = .next t) (hs : s.QueueOk) : t.QueueOk :=
  step_keeps (P := State.QueueOk)
    (hp := fun _ _ _ _ hs => hs.of_kept rfl rfl (.of_eq rfl))
    (hreset := State.reset_queueOk)
    (hwork := fun _ _ _ hw hs => hw.queueOk hs)
    (hexpire := fun s hs _ => hs.of_kept (by simp) (by simp) s.expire_pending_follows)
    (hlink := fun _ k x hs _ => hs.stepLink k x)
    (hun := fun _ rx hs _ => hs.stepUnplanned rx)
    h hs

-- ==== ATTN follows its condition (R170) ====

/-- ATTN is right wherever it has just been driven. -/
theorem State.driveAttn_attnOk (s : State) : s.driveAttn.AttnOk := rfl

theorem State.completeFrame_attnOk (rq : Requester) (e : Option Entry) (s : State) : (s.completeFrame rq e).AttnOk :=
  State.driveAttn_attnOk _

section Attention

variable {s : State} (h : s.AttnOk)
include h

/-- A request drives ATTN when its frame completes, and touches neither the line nor its condition else. -/
theorem State.AttnOk.deliver (rq : Requester) (e : Option Entry) (n : Nat) : (s.deliver rq e n).AttnOk := by
  unfold State.deliver
  dsimp only
  split
  · split
    · exact h
    · split
      · exact h
      · exact State.completeFrame_attnOk rq e _
  · exact h

theorem State.AttnOk.bodyDone (frame : List Byte) : (s.bodyDone frame).AttnOk := by
  unfold State.bodyDone
  split
  · exact h
  · exact State.completeFrame_attnOk _ _ _

theorem State.AttnOk.excess : s.excess.AttnOk := by
  unfold State.excess
  split
  · exact h
  · split <;> exact h

theorem State.AttnOk.takeByte (b : Byte) : (s.takeByte b).AttnOk := by
  unfold State.takeByte
  split
  · unfold State.headerByte
    split
    · exact h
    · unfold State.takeLength
      split
      · exact h
      · split
        · exact h.bodyDone _
        · exact h
  · unfold State.payloadByte
    split
    · exact h
    · exact h.bodyDone _
  · unfold State.checkByte
    split
    · exact State.completeFrame_attnOk _ _ _
    · exact h
  · exact h.excess
  · exact h

theorem State.AttnOk.receive (b : Byte) (parity : Bool) {take : State → State} (ht : (take s).AttnOk) :
    (s.receive b parity take).AttnOk := by
  unfold State.receive
  split
  · split
    · exact h
    · split
      · split
        · exact ht
        · exact h
      · exact h
  · exact h

theorem State.AttnOk.openRead : s.openRead.AttnOk := by
  have hpending : ∀ d, (s.readPending d).AttnOk := by
    intro d
    unfold State.readPending
    split <;> exact h
  unfold State.openRead
  split
  · exact hpending _
  · exact hpending _
  · split <;> exact h
  · exact h
  · exact h

theorem State.AttnOk.takeAddress (b : Byte) : (s.takeAddress b).AttnOk := by
  unfold State.takeAddress
  split
  · split
    · exact h
    · split
      · exact h.openRead
      · exact h
  · exact h

/-- The timer's expiry and the engine's steps drive ATTN; a bus event drives it when it completes a frame, and else touches
neither the line nor its condition. -/
theorem exec_attnOk {c : Instr} {t : State} (he : exec c s = .next t) : t.AttnOk := by
  have hquiet : s.quietLines.AttnOk := h
  cases c with
  | deviceReset =>
    obtain rfl := Host.Outcome.next.inj he
    rfl
  | transactionStart =>
    simp only [exec, execTransactionStart] at he
    split at he <;> (obtain rfl := Host.Outcome.next.inj he; exact h)
  | repeatedStart =>
    simp only [exec, execRepeatedStart] at he
    split at he <;> (obtain rfl := Host.Outcome.next.inj he; exact h)
  | stop =>
    simp only [exec, execStop] at he
    split at he <;> (obtain rfl := Host.Outcome.next.inj he; exact h)
  | resetnRelease a b =>
    simp only [exec, execResetnRelease] at he
    split at he <;> (obtain rfl := Host.Outcome.next.inj he; exact h)
  | addressByte b p =>
    simp only [exec, execAddressByte] at he
    split at he
    · split at he
      · obtain rfl := Host.Outcome.next.inj he
        exact hquiet.takeAddress b
      · obtain rfl := Host.Outcome.next.inj he
        exact h
    · obtain rfl := Host.Outcome.next.inj he
      exact h
  | writeByte b p =>
    obtain rfl := Host.Outcome.next.inj he
    exact hquiet.receive b p (hquiet.takeByte b)
  | excessByte b p =>
    obtain rfl := Host.Outcome.next.inj he
    refine hquiet.receive b p ?_
    split
    · exact hquiet.excess
    · exact hquiet.takeByte b
  | replyByte m =>
    simp only [exec, execReplyByte] at he
    split at he
    · split at he <;> (obtain rfl := Host.Outcome.next.inj he; exact h)
    all_goals (obtain rfl := Host.Outcome.next.inj he; exact h)
  | epochTimerExpiry =>
    simp only [exec, execEpochTimerExpiry] at he
    split at he <;> obtain rfl := Host.Outcome.next.inj he
    · exact State.driveAttn_attnOk _
    all_goals exact h
  | linkEvaluationStep =>
    simp only [exec, execLinkEvaluationStep] at he
    split at he <;> obtain rfl := Host.Outcome.next.inj he
    · exact State.driveAttn_attnOk _
    · exact h
  | unplannedScanStep =>
    simp only [exec, execUnplannedScanStep] at he
    split at he <;> obtain rfl := Host.Outcome.next.inj he
    · exact State.driveAttn_attnOk _
    · exact h
  | _ =>
    obtain rfl := Host.Outcome.next.inj he
    exact h.deliver _ _ _

end Attention

theorem step_attnOk {s t : State} (h : step s = .next t) (hs : s.AttnOk) : t.AttnOk := by
  unfold step at h
  split at h
  · obtain rfl := Host.Outcome.next.inj h
    exact hs
  · rename_i c rest hqueue
    have hqueued : (s.withPending rest).AttnOk := hs
    exact exec_attnOk hqueued h

/-- Settles O59: the queue is carried by `step_keeps` through the changes of the requests and the pass, and ATTN through each
command. -/
theorem queueAndAttentionStay : Obligations.QueueAndAttentionStay :=
  fun _ _ h => ⟨step_queueOk h, step_attnOk h⟩

end Sys2Proof.Machine
end

section
/-!
The sweep as chapter 4 describes it (R56, R59, R73, R75), kept by every request, every marker and every step of the pass: first
what a quiet call needs of the roster, then each way a sweep state is entered.
-/

namespace Sys2Proof.Machine

-- ==== The roster and the quiet call (R36) ====

/-- What may become of a slot record without a touch to the quiet call: the call's two flags stay, and a slot that would be
called still would be. -/
structure SlotRecord.KeepsCall (r r' : SlotRecord) : Prop where
  called : r.called = true → r'.called = true
  owed   : r'.quietOwed = r.quietOwed
  acked  : r'.quietAcked = r.quietAcked

theorem SlotRecord.KeepsCall.refl (r : SlotRecord) : r.KeepsCall r := ⟨id, rfl, rfl⟩

theorem SlotRecord.KeepsCall.owing {r r' : SlotRecord} (h : r.KeepsCall r') : r'.owing = r.owing := by
  rw [SlotRecord.owing, SlotRecord.owing, h.owed, h.acked]

/-- Every slot record of `t` keeps the quiet call of that of `s`. -/
def State.KeepsCalls (s t : State) : Prop := ∀ i, (s.slots.get i).KeepsCall (t.slots.get i)

theorem State.KeepsCalls.of_eq {s t : State} (h : t.slots = s.slots) : s.KeepsCalls t := fun i => by
  rw [h]
  exact .refl _

theorem State.KeepsCalls.of_setSlot {s : State} {slot : Nat} {r : SlotRecord} (h : (s.slots.get slot).KeepsCall r) :
    s.KeepsCalls (s.setSlot slot r) := by
  intro i
  rw [State.setSlot_slots]
  obtain hi | ⟨rfl, hi⟩ := s.slots.get_set_cases slot i r <;> rw [hi]
  · exact .refl _
  · exact h

theorem SlotRecord.countMissed_keepsCall (w : ReportWindow) (r : SlotRecord) : r.KeepsCall (r.countMissed w) := by
  unfold SlotRecord.countMissed
  split_ifs with hactive
  · exact ⟨id, rfl, rfl⟩
  · exact ⟨id, rfl, rfl⟩
  · exact ⟨fun _ => SlotRecord.called_iff.2 (.inr (.inl rfl)), rfl, rfl⟩
  · exact .refl r

theorem State.countMissedRuns_keepsCalls (s : State) : s.KeepsCalls s.countMissedRuns := by
  intro i
  by_cases hi : i < 24
  · unfold State.countMissedRuns
    rw [Table.get_mapIdx _ s.slots hi]
    exact SlotRecord.countMissed_keepsCall _ _
  · rw [State.slot_outside _ (Nat.le_of_not_lt hi), State.slot_outside _ (Nat.le_of_not_lt hi)]
    exact .refl _

theorem State.bookkeep_keepsCalls (s : State) : s.KeepsCalls s.bookkeep := by
  unfold State.bookkeep
  split
  · split
    · exact s.countMissedRuns_keepsCalls
    · exact s.countGaps.countMissedRuns_keepsCalls
    · exact .of_eq rfl
    · exact .of_eq rfl
  · exact .of_eq rfl

/-- A state in which the quiet call has yet to start, and some slot will be called by it. -/
structure State.Callable (s : State) : Prop where
  notStarted : s.seq.quietCall = .notStarted
  unowed     : ∀ i, (s.slots.get i).quietOwed = false
  called     : ∃ i, i < 24 ∧ (s.slots.get i).called = true

/-- A quiet call that is pending is owed by called slots alone, and by some slot. -/
structure State.CallOwed (s : State) : Prop where
  owed    : s.seq.quietCall = .pending → ∀ i, (s.slots.get i).owing = true → (s.slots.get i).called = true
  pending : s.seq.quietCall = .pending → ∃ i, i < 24 ∧ (s.slots.get i).owing = true

theorem State.Callable.of_keeps {s t : State} (h : s.Callable) (hq : t.seq.quietCall = s.seq.quietCall)
    (hr : s.KeepsCalls t) : t.Callable where
  notStarted := hq.trans h.notStarted
  unowed i := (hr i).owed.trans (h.unowed i)
  called := by
    obtain ⟨i, hi, hc⟩ := h.called
    exact ⟨i, hi, (hr i).called hc⟩

theorem State.CallOwed.of_keeps {s t : State} (h : s.CallOwed) (hq : t.seq.quietCall = s.seq.quietCall)
    (hr : s.KeepsCalls t) : t.CallOwed where
  owed hp i ho := (hr i).called (h.owed (hq ▸ hp) i ((hr i).owing ▸ ho))
  pending hp := by
    obtain ⟨i, hi, ho⟩ := h.pending (hq ▸ hp)
    exact ⟨i, hi, (hr i).owing.trans ho⟩

/-- A call that is not pending owes nothing. -/
theorem State.CallOwed.of_complete {t : State} (h : t.seq.quietCall = .complete) : t.CallOwed :=
  ⟨fun hp => absurd (h.symm.trans hp) (by decide), fun hp => absurd (h.symm.trans hp) (by decide)⟩

theorem SlotRecord.callQuiet_of_called {r : SlotRecord} (h : r.called = true) :
    r.callQuiet = { r with quietOwed := true, quietAcked := false } := if_pos h

theorem SlotRecord.callQuiet_of_uncalled {r : SlotRecord} (h : ¬ r.called = true) : r.callQuiet = r := if_neg h

/-- The slots that a quiet call reaches owe it, and no others do (R36). -/
theorem State.Callable.callOwed {s t : State} (h : s.Callable) (hr : t.slots = s.slots.map SlotRecord.callQuiet) :
    t.CallOwed := by
  have hget : ∀ i, t.slots.get i = (s.slots.get i).callQuiet := fun i => by
    rw [hr]
    exact Table.get_map_default _ _ i rfl
  refine ⟨fun _ i ho => ?_, fun _ => ?_⟩
  · rw [hget] at ho ⊢
    by_cases hc : (s.slots.get i).called = true
    · rw [SlotRecord.callQuiet_of_called hc]
      exact hc
    · rw [SlotRecord.callQuiet_of_uncalled hc, SlotRecord.owing, h.unowed i] at ho
      exact absurd ho (by simp)
  · obtain ⟨i, hi, hc⟩ := h.called
    exact ⟨i, hi, by rw [hget, SlotRecord.callQuiet_of_called hc]; rfl⟩

-- ==== What it takes for a sweep to stand well, by the kind of its state ====

/-- At rest no call is made and none is waited for. -/
theorem State.SweepOk.of_atRest {t : State} (hw : t.seq.sweep.atRest = true) (ht : t.timing.InRange) (hp : t.Phase)
    (hh : t.seq.hold = 0) : t.SweepOk where
  timing := ht
  phase := hp
  hold h := absurd hh h
  called h := by
    revert hw h
    cases t.seq.sweep <;> simp [SweepState.atRest, SweepState.willCall]
  unowed h := absurd (hw.symm.trans h) (by decide)
  owed h := absurd (hw.symm.trans h) (by decide)
  pending h := absurd (hw.symm.trans h) (by decide)

theorem State.SweepOk.of_arming {t : State} (hw : t.seq.sweep = .arming) (ht : t.timing.InRange) (hp : t.Phase)
    (hh : t.seq.hold = 0) (hq : t.seq.quietCall = .notStarted) (hu : ∀ i, (t.slots.get i).quietOwed = false) :
    t.SweepOk where
  timing := ht
  phase := hp
  hold h := absurd hh h
  called h := absurd h (by simp [hw, SweepState.willCall])
  unowed _ _ := hu
  owed _ h := absurd (hq.symm.trans h) (by decide)
  pending _ h := absurd (hq.symm.trans h) (by decide)

theorem State.SweepOk.of_callable {t : State} (ht : t.timing.InRange) (hp : t.Phase)
    (hh : t.seq.hold ≠ 0 → t.seq.sweep = .settle ∨ t.seq.sweep = .measure) (hc : t.Callable) : t.SweepOk where
  timing := ht
  phase := hp
  hold := hh
  called _ := hc.called
  unowed _ _ := hc.unowed
  owed _ h := absurd (hc.notStarted.symm.trans h) (by decide)
  pending _ h := absurd (hc.notStarted.symm.trans h) (by decide)

theorem State.SweepOk.of_callOwed {t : State} (hw : t.seq.sweep.willCall = false) (ht : t.timing.InRange) (hp : t.Phase)
    (hh : t.seq.hold = 0) (hq : t.seq.quietCall ≠ .notStarted) (hc : t.CallOwed) : t.SweepOk where
  timing := ht
  phase := hp
  hold h := absurd hh h
  called h := absurd (hw.symm.trans h) (by decide)
  unowed _ h := absurd h hq
  owed _ := hc.owed
  pending _ := hc.pending

section Facts

variable {s : State} (h : s.SweepOk)
include h

theorem State.SweepOk.callOwed (hw : s.seq.sweep.atRest = false) : s.CallOwed := ⟨h.owed hw, h.pending hw⟩

/-- Hold remaining stands only in SETTLE and MEASURE. -/
theorem State.SweepOk.hold_eq_zero (hw : s.seq.sweep ≠ .settle ∧ s.seq.sweep ≠ .measure) : s.seq.hold = 0 := by
  by_contra hh
  obtain hs | hm := h.hold hh
  · exact hw.1 hs
  · exact hw.2 hm

/-- Before REDUCE no slot has been called quiet. -/
theorem State.SweepOk.uncalled (hw : s.seq.sweep.early = true) : s.seq.Uncalled := by
  have hp := h.phase
  unfold State.Phase at hp
  cases hsweep : s.seq.sweep with
  | arming => rw [hsweep] at hp; obtain ⟨-, -, -, -, -, -, hu⟩ := hp; exact hu
  | settle => rw [hsweep] at hp; obtain ⟨-, -, -, -, hu, -⟩ := hp; exact hu
  | measure => rw [hsweep] at hp; obtain ⟨-, -, -, hu, -⟩ := hp; exact hu
  | stopped resume =>
    rw [hsweep] at hp
    cases resume with
    | settle => obtain ⟨-, -, -, -, hu, -⟩ := hp; exact hu
    | measure => obtain ⟨-, -, -, hu, -⟩ := hp; exact hu
    | reduce => obtain ⟨-, -, -, hu, -⟩ := hp; exact hu
  | _ => rw [hsweep] at hw; exact absurd hw (by simp [SweepState.early])

theorem State.SweepOk.callable (hw : s.seq.sweep.willCall = true) : s.Callable := by
  have hearly : s.seq.sweep.early = true ∧ s.seq.sweep.atRest = false := by
    revert hw
    cases s.seq.sweep <;> simp [SweepState.willCall, SweepState.early, SweepState.atRest]
  have hq := (h.uncalled hearly.1).1
  exact ⟨hq, h.unowed hearly.2 hq, h.called hw⟩

/-- The epoch number of a sweep that can be aborted lies within its settings (R59, R83). -/
theorem State.SweepOk.epoch_le_bound (hw : s.seq.sweep.willCall = true) :
    s.seq.epoch ≤ s.timing.arming + s.timing.window + s.timing.measure := by
  have hp := h.phase
  unfold State.Phase at hp
  cases hsweep : s.seq.sweep with
  | settle => rw [hsweep] at hp; obtain ⟨-, -, -, -, -, a, -, -, ha, -, he⟩ := hp; omega
  | measure => rw [hsweep] at hp; obtain ⟨-, -, -, -, a, b, -, -, -, ha, -, hb, -, he⟩ := hp; omega
  | stopped resume =>
    rw [hsweep] at hp
    cases resume with
    | settle => obtain ⟨-, -, -, -, -, -, -, he⟩ := hp; omega
    | measure => obtain ⟨-, -, -, -, -, a, -, -, ha, -, he⟩ := hp; omega
    | reduce => obtain ⟨-, -, -, -, a, b, -, -, -, ha, -, hb, he⟩ := hp; omega
  | _ => rw [hsweep] at hw; exact absurd hw (by simp [SweepState.willCall])

/-- The epoch number never passes 65535 (R57). -/
theorem State.SweepOk.epoch_le : s.seq.epoch ≤ 65535 := by
  obtain ⟨-, ⟨-, harming⟩, ⟨-, hwindow⟩, ⟨-, hmeasure⟩, -⟩ := h.timing
  by_cases hcall : s.seq.sweep.willCall = true
  · have := h.epoch_le_bound hcall
    omega
  have hp := h.phase
  unfold State.Phase at hp
  cases hsweep : s.seq.sweep with
  | idle => rw [hsweep] at hp; rw [show s.seq = {} from hp]; decide
  | arming => rw [hsweep] at hp; obtain ⟨-, he, -⟩ := hp; omega
  | reduce => rw [hsweep] at hp; obtain ⟨-, -, a, b, -, -, -, -, -, -, -, -, -, -, he, -⟩ := hp; exact he
  | aborting => rw [hsweep] at hp; obtain ⟨-, -, -, d, -, hd, he⟩ := hp; omega
  | halted origin =>
    rw [hsweep] at hp
    cases origin with
    | aborting => obtain ⟨-, -, -, he⟩ := hp; omega
    | reduce => obtain ⟨-, -, -, a, b, -, -, -, ha, -, hb, -, -, he⟩ := hp; omega
  | done => rw [hsweep] at hp; exact hp.2
  | aborted => rw [hsweep] at hp; exact hp.2
  | _ => exact absurd (by rw [hsweep]; rfl) hcall

end Facts

-- ==== The ways into a sweep state ====

/-- Entry to DONE or ABORTED (R78). -/
theorem State.SweepOk.enterTerminal {s : State} {w : SweepState} (hw : w = .done ∨ w = .aborted) (ht : s.timing.InRange)
    (he : s.seq.epoch ≤ 65535) : (s.enterTerminal w).SweepOk := by
  obtain rfl | rfl := hw
  · exact .of_atRest rfl ht ⟨rfl, he⟩ rfl
  · exact .of_atRest rfl ht ⟨rfl, he⟩ rfl

/-- Entry to ABORTING with a new quiet call (R71, R73). -/
theorem State.SweepOk.abortStopped {s : State} (h : s.Callable) (ht : s.timing.InRange)
    (he : s.seq.epoch ≤ s.timing.arming + s.timing.window + s.timing.measure) (c : AbortCause) :
    (s.abortStopped c).SweepOk := by
  unfold State.abortStopped
  rw [State.ensureQuietCall_notStarted (s := (s.closeSweep).setCause c) h.notStarted]
  refine .of_callOwed rfl ht ?_ rfl (by decide : QuietCall.pending ≠ .notStarted) (h.callOwed rfl)
  exact ⟨rfl, rfl, rfl, s.seq.epoch + 4, rfl, Nat.lt_add_of_pos_right (by decide), Nat.add_le_add_right he 4⟩

/-- With the timer running and no quiet call yet, the abort out of SETTLE or MEASURE is the one out of STOPPED. -/
theorem State.abortRunning_eq_abortStopped {s : State} (hq : s.seq.quietCall = .notStarted)
    (ht : s.seq.timer = .running s.timing.period) (c : AbortCause) : s.abortRunning c = s.abortStopped c := by
  unfold State.abortStopped
  rw [State.ensureQuietCall_notStarted (s := (s.closeSweep).setCause c) hq]
  unfold State.abortRunning State.restartTimer State.startQuietCall State.enterAborting State.setCause State.closeSweep
  dsimp only
  rw [ht]

/-- The abort out of REDUCE, where a quiet call has been made (R71, R158). -/
theorem State.SweepOk.abortReduce {s : State} (h : s.SweepOk) (hw : s.seq.sweep = .reduce) (c : AbortCause) :
    (s.abortReduce c).SweepOk := by
  have hcalled := h.callOwed (by rw [hw]; rfl)
  have he := h.epoch_le
  obtain ⟨-, ⟨-, harming⟩, ⟨-, hwindow⟩, ⟨-, hmeasure⟩, -⟩ := h.timing
  have hp := h.phase
  unfold State.Phase at hp
  rw [hw] at hp
  obtain ⟨htimer, hstarted, a, b, hs0, hm0, ha, haw, hab, hbw, -, hclosing, hdeadline, -, -, hpending⟩ := hp
  obtain ⟨cursor, v, hstop⟩ : ∃ cursor v, (s.setCause c).stopPass =
      { s with cursor := cursor, seq := { s.seq with abortCause := c, evaluation := v } } := by
    unfold State.stopPass
    split <;> exact ⟨_, _, rfl⟩
  unfold State.abortReduce
  rw [hstop]
  dsimp only
  split
  · exact .enterTerminal (.inr rfl) h.timing he
  · rename_i hq
    have hrunning : s.seq.timer = .running s.timing.period := by
      obtain ht | ⟨-, -, hc⟩ := htimer
      · exact ht
      · exact absurd (hq.symm.trans hc) (by decide)
    refine .of_callOwed rfl h.timing ?_ rfl hstarted ⟨hcalled.owed, hcalled.pending⟩
    exact ⟨hrunning, hq, congrArg Option.isSome hclosing, _, hdeadline, hpending hq, by
      show b + s.timing.measure + 4 ≤ s.timing.arming + s.timing.window + s.timing.measure + 4
      omega⟩
  · exact absurd (by assumption) hstarted

/-- An abort keeps the sweep well, in whatever state it comes (R71). -/
theorem State.SweepOk.abortSweep {s : State} (h : s.SweepOk) (c : AbortCause) : (s.abortSweep c).SweepOk := by
  have stopped : s.seq.sweep.willCall = true → (s.abortStopped c).SweepOk := fun hw =>
    .abortStopped (h.callable hw) h.timing (h.epoch_le_bound hw) c
  have running : s.seq.sweep.willCall = true → s.seq.timer = .running s.timing.period → (s.abortRunning c).SweepOk :=
    fun hw ht => by
      rw [State.abortRunning_eq_abortStopped (h.callable hw).notStarted ht]
      exact stopped hw
  have hp := h.phase
  unfold State.Phase at hp
  unfold State.abortSweep
  cases hsweep : s.seq.sweep with
  | arming => exact .enterTerminal (.inr rfl) h.timing h.epoch_le
  | settle => rw [hsweep] at hp; exact running (by rw [hsweep]; rfl) hp.1
  | measure => rw [hsweep] at hp; exact running (by rw [hsweep]; rfl) hp.1
  | stopped resume =>
    cases resume with
    | settle => exact .enterTerminal (.inr rfl) h.timing h.epoch_le
    | measure => exact stopped (by rw [hsweep]; rfl)
    | reduce => exact stopped (by rw [hsweep]; rfl)
  | reduce => exact h.abortReduce hsweep c
  | _ => exact h

theorem State.SweepOk.activeFell {s : State} (h : s.SweepOk) : s.activeFell.SweepOk := by
  unfold State.activeFell State.allLost
  split
  · split
    · exact h.abortSweep .allLost
    · exact h
  · exact h

-- ==== A change of the roster alone ====

theorem State.phase_congr {s t : State} (hq : t.seq = s.seq) (ht : t.timing = s.timing) : t.Phase ↔ s.Phase := by
  unfold State.Phase
  rw [hq, ht]

/-- Where the sweep and the settings stay, and the roster keeps the quiet call, the sweep stands as it did. -/
theorem State.SweepOk.of_keeps {s t : State} (h : s.SweepOk) (hq : t.seq = s.seq) (ht : t.timing = s.timing)
    (hr : s.KeepsCalls t) : t.SweepOk where
  timing := ht ▸ h.timing
  phase := (State.phase_congr hq ht).2 h.phase
  hold := hq ▸ h.hold
  called hw := by
    obtain ⟨i, hi, hc⟩ := h.called (hq ▸ hw)
    exact ⟨i, hi, (hr i).called hc⟩
  unowed hw hn i := (hr i).owed.trans (h.unowed (hq ▸ hw) (hq ▸ hn) i)
  owed hw hp i ho := (hr i).called (h.owed (hq ▸ hw) (hq ▸ hp) i ((hr i).owing ▸ ho))
  pending hw hp := by
    obtain ⟨i, hi, ho⟩ := h.pending (hq ▸ hw) (hq ▸ hp)
    exact ⟨i, hi, (hr i).owing.trans ho⟩

/-- A slot that no quiet call reaches may be emptied. -/
theorem State.SweepOk.emptySlot {s : State} (h : s.SweepOk) {slot : Nat}
    (hc : s.seq.sweep.atRest = false → ¬ (s.slots.get slot).called = true) : (s.setSlot slot {}).SweepOk := by
  have hget : ∀ i, (s.setSlot slot {}).slots.get i = s.slots.get i ∨
      (i = slot ∧ (s.setSlot slot {}).slots.get i = {}) := fun i => s.slots.get_set_cases slot i {}
  have hother : ∀ i, i ≠ slot → (s.setSlot slot {}).slots.get i = s.slots.get i :=
    fun i hi => Table.get_set_ne _ hi.symm _
  refine ⟨h.timing, h.phase, h.hold, fun hw => ?_, fun hw hn i => ?_, fun hw hp i ho => ?_, fun hw hp => ?_⟩
  · have hrest : s.seq.sweep.atRest = false := by
      revert hw
      rw [State.setSlot_seq]
      cases s.seq.sweep <;> simp [SweepState.willCall, SweepState.atRest]
    obtain ⟨i, hi, hcalled⟩ := h.called hw
    exact ⟨i, hi, by rwa [hother i fun he => hc hrest (he ▸ hcalled)]⟩
  · obtain hi | ⟨-, hi⟩ := hget i <;> rw [hi]
    exact h.unowed hw hn i
  · obtain hi | ⟨-, hi⟩ := hget i <;> rw [hi] at ho ⊢
    · exact h.owed hw hp i ho
    · exact absurd ho (by decide)
  · obtain ⟨i, hi, ho⟩ := h.pending hw hp
    exact ⟨i, hi, by rwa [hother i fun he => hc hw (he ▸ h.owed hw hp i ho)]⟩

end Sys2Proof.Machine
end

section
/-!
The sweep under the requests, the markers and the steps of the pass (R57–R77): each keeps it as chapter 4 describes it.
-/

namespace Sys2Proof.Machine

-- ==== The end of the quiet call (R74, R77) ====

/-- The quiet call becomes COMPLETE: a state in which it had started stands well. -/
theorem State.SweepOk.completeCall {s t : State} (h : s.SweepOk) (hq : s.seq.quietCall = .pending)
    (hw : s.seq.sweep ≠ .aborting) (ht : t.timing = s.timing)
    (hseq : t.seq = { s.seq with quietCall := .complete }) : t.SweepOk := by
  have hnone : s.seq.quietCall ≠ .notStarted := by rw [hq]; decide
  have hcomplete : t.seq.quietCall = .complete := by rw [hseq]
  have hsweep : t.seq.sweep = s.seq.sweep := by rw [hseq]
  have hhold : t.seq.hold = s.seq.hold := by rw [hseq]
  have hearly : s.seq.sweep.early = false := Bool.eq_false_iff.2 fun he => hnone (h.uncalled he).1
  have hwillCall : t.seq.sweep.willCall = false := by
    rw [hsweep]
    revert hearly
    cases s.seq.sweep <;> simp [SweepState.early, SweepState.willCall]
  have hzero : t.seq.hold = 0 := hhold.trans (h.hold_eq_zero (by
    constructor <;> (intro he; rw [he] at hearly; exact absurd hearly (by decide))))
  refine .of_callOwed hwillCall (ht ▸ h.timing) ?_ hzero (by rw [hcomplete]; decide) (.of_complete hcomplete)
  have hp := h.phase
  unfold State.Phase at hp ⊢
  rw [hsweep, ht, hseq]
  cases hs : s.seq.sweep with
  | idle => rw [hs] at hp; rw [show s.seq = {} from hp] at hq; exact absurd hq (by decide)
  | reduce =>
    rw [hs] at hp
    obtain ⟨htimer, -, a, b, hs0, hm0, ha, haw, hab, hbw, hstart, hclosing, hdeadline, hbe, he, -⟩ := hp
    exact ⟨htimer.imp_right fun ht => ⟨ht.1, ht.2.1, rfl⟩, QuietCall.noConfusion, a, b, hs0, hm0, ha, haw, hab, hbw, hstart,
      hclosing, hdeadline, hbe, he, QuietCall.noConfusion⟩
  | aborting => exact absurd hs hw
  | halted origin =>
    rw [hs] at hp
    cases origin with
    | aborting => obtain ⟨htimer, -, hrest⟩ := hp; exact ⟨htimer, QuietCall.noConfusion, hrest⟩
    | reduce => obtain ⟨htimer, -, hrest⟩ := hp; exact ⟨htimer, QuietCall.noConfusion, hrest⟩
  | done => rw [hs] at hp; exact hp
  | aborted => rw [hs] at hp; exact hp
  | _ => rw [hs] at hearly; exact absurd hearly (by simp [SweepState.early])

/-- A QUIET that answers the call: while some slot still owes, the call goes on; else it ends, and with it the sweep where it
waited for that alone (R74). -/
theorem State.SweepOk.quiet {s : State} (h : s.SweepOk) (hq : s.seq.quietCall = .pending) (slot : Nat) :
    (s.acknowledge slot).quietAnswered.SweepOk := by
  have hget : ∀ i, (s.acknowledge slot).slots.get i = s.slots.get i ∨
      (s.acknowledge slot).slots.get i = { s.slots.get i with quietAcked := true } := fun i => by
    obtain hi | ⟨rfl, hi⟩ := s.slots.get_set_cases slot i { s.slots.get slot with quietAcked := true }
    · exact .inl hi
    · exact .inr hi
  have hnone : s.seq.quietCall ≠ .notStarted := by rw [hq]; decide
  by_cases hsome : (s.acknowledge slot).someOwing = true
  · rw [State.quietAnswered_owing hsome]
    obtain ⟨j, hj, hjo, hja⟩ := State.someOwing_iff.1 hsome
    refine ⟨h.timing, h.phase, h.hold, fun hw => ?_, fun _ hn => absurd hn hnone, fun hw hp i ho => ?_,
      fun _ _ => ⟨j, hj, SlotRecord.owing_iff.2 ⟨hjo, hja⟩⟩⟩
    · exact absurd (h.callable hw).notStarted hnone
    · obtain hi | hi := hget i <;> rw [hi] at ho ⊢
      · exact h.owed hw hp i ho
      · exact absurd ho (by simp [SlotRecord.owing])
  · by_cases haborting : s.seq.sweep = .aborting
    · rw [State.quietAnswered_ends hsome (.inl ⟨haborting, rfl⟩)]
      exact .enterTerminal (.inr rfl) h.timing h.epoch_le
    by_cases hreduce : s.seq.sweep = .reduce ∧ s.seq.evaluation = .complete
    · rw [State.quietAnswered_ends hsome (.inr ⟨hreduce.1, hreduce.2, rfl⟩)]
      exact .enterTerminal (.inl rfl) h.timing h.epoch_le
    · have hgoesOn := State.quietAnswered_goesOn hsome haborting hreduce
      exact h.completeCall hq haborting (by rw [hgoesOn]; rfl) (by rw [hgoesOn]; rfl)

/-- CLEAR HALT leads to the end of the sweep or back into REDUCE (R77). -/
theorem State.SweepOk.clearHalt {s : State} (h : s.SweepOk) {o : HaltOrigin} (hw : s.seq.sweep = .halted o) :
    (s.answerQuiet.leaveHalt o).SweepOk := by
  have hp := h.phase
  unfold State.Phase at hp
  rw [hw] at hp
  cases o with
  | aborting => exact .enterTerminal (.inr rfl) h.timing h.epoch_le
  | reduce =>
    obtain ⟨-, -, hdeadline, a, b, hs0, hm0, ha, haw, hab, hbw, hstart, hclosing, he⟩ := hp
    unfold State.leaveHalt
    dsimp only
    split
    · exact .enterTerminal (.inl rfl) h.timing h.epoch_le
    · refine .of_callOwed rfl h.timing ?_ (h.hold_eq_zero (by rw [hw]; decide))
        (by decide : QuietCall.complete ≠ .notStarted) (.of_complete rfl)
      exact ⟨.inl rfl, QuietCall.noConfusion, a, b, hs0, hm0, ha, haw, hab, hbw, hstart, hclosing, he ▸ hdeadline,
        by show b + s.timing.measure ≤ s.seq.epoch; omega, h.epoch_le, QuietCall.noConfusion⟩

-- ==== START and CONTINUE (R61, R70) ====

theorem State.SweepOk.startSweep {s : State} (h : s.SweepOk) : s.startSweep.SweepOk := by
  obtain ⟨-, ⟨harming, -⟩, -⟩ := h.timing
  refine .of_arming rfl h.timing ⟨rfl, harming, rfl, rfl, rfl, rfl, rfl, rfl, rfl⟩ rfl rfl fun i => ?_
  rw [State.startSweep_slots, Table.get_map_default _ _ i rfl]
  rfl

section Continue

variable {s : State} (h : s.SweepOk)
include h

theorem State.SweepOk.continueSettle (hw : s.seq.sweep = .stopped .settle) : (s.resume .settle).SweepOk := by
  have hcall := h.callable (by rw [hw]; rfl)
  have hp := h.phase
  unfold State.Phase at hp
  rw [hw] at hp
  obtain ⟨-, hm0, hstart, hclosing, hu, hs0, hlow, hhigh⟩ := hp
  obtain ⟨-, -, ⟨hwindow, -⟩, -⟩ := h.timing
  refine .of_callable h.timing ?_ (fun _ => .inl rfl) ⟨hcall.notStarted, hcall.unowed, hcall.called⟩
  exact ⟨rfl, hm0, hstart, hclosing, hu, s.seq.epoch, hs0, hlow, hhigh, Nat.le_refl _, by
    show s.seq.epoch < s.seq.epoch + s.timing.window
    omega⟩

theorem State.SweepOk.continueMeasure (hw : s.seq.sweep = .stopped .measure) : (s.resume .measure).SweepOk := by
  have hcall := h.callable (by rw [hw]; rfl)
  have hp := h.phase
  unfold State.Phase at hp
  rw [hw] at hp
  obtain ⟨-, hstart, hclosing, hu, hm0, a, hs0, hlow, hhigh, hae, hea⟩ := hp
  obtain ⟨-, -, -, ⟨hmeasure, -⟩, -⟩ := h.timing
  refine .of_callable h.timing ?_ (fun _ => .inr rfl) ⟨hcall.notStarted, hcall.unowed, hcall.called⟩
  exact ⟨rfl, hstart, hclosing, hu, a, s.seq.epoch, hs0, hm0, hlow, hhigh, hae, hea, Nat.le_refl _, by
    show s.seq.epoch < s.seq.epoch + s.timing.measure
    omega⟩

theorem State.SweepOk.continueReduce (hw : s.seq.sweep = .stopped .reduce) : (s.resume .reduce).startQuietCall.SweepOk := by
  have hcall := h.callable (by rw [hw]; rfl)
  have he := h.epoch_le
  have hp := h.phase
  unfold State.Phase at hp
  rw [hw] at hp
  obtain ⟨-, hstart, hclosing, hu, a, b, hs0, hm0, hlow, hhigh, hab, hba, hend⟩ := hp
  refine .of_callOwed rfl h.timing ?_ (h.hold_eq_zero (by rw [hw]; decide)) (by decide : QuietCall.pending ≠ .notStarted)
    (hcall.callOwed rfl)
  exact ⟨.inl rfl, QuietCall.noConfusion, a, b, hs0, hm0, hlow, hhigh, hab, hba, hend ▸ hstart, hend ▸ hclosing,
    congrArg (fun n => some (n + 4)) hend, hend.ge, he, fun _ => by
      show s.seq.epoch < b + s.timing.measure + 4
      omega⟩

end Continue

-- ==== The steps of the pass (R140, R155) ====

/-- The record of the pass is no part of the sweep where the engine takes steps (R140). -/
theorem State.SweepOk.setEvaluation {s t : State} (h : s.SweepOk) (hw : s.seq.sweep.evaluates = true) {v : Evaluation}
    (hq : t.seq = { s.seq with evaluation := v }) (ht : t.timing = s.timing) (hr : t.slots = s.slots) : t.SweepOk := by
  refine ⟨ht ▸ h.timing, ?_, by rw [hq]; exact h.hold, by rw [hq, hr]; exact h.called, by rw [hq, hr]; exact h.unowed,
    by rw [hq, hr]; exact h.owed, by rw [hq, hr]; exact h.pending⟩
  have hp := h.phase
  unfold State.Phase at hp ⊢
  rw [hq, ht]
  dsimp only
  cases hs : s.seq.sweep with
  | reduce => rw [hs] at hp; exact hp
  | halted origin => rw [hs] at hp; cases origin <;> exact hp
  | _ => rw [hs] at hw; exact absurd hw (by simp [SweepState.evaluates])

section Pass

variable {s : State} (h : s.SweepOk) (hw : s.seq.sweep.evaluates = true)
include h hw

theorem State.SweepOk.finishPass : s.finishPass.SweepOk := by
  unfold State.finishPass
  dsimp only
  split
  · exact .enterTerminal (.inl rfl) h.timing h.epoch_le
  · exact h.setEvaluation hw rfl rfl rfl

theorem State.SweepOk.advance : s.advance.SweepOk := by
  unfold State.advance
  split
  · split <;> exact h.of_keeps rfl rfl (.of_eq rfl)
  · split
    · exact h.of_keeps rfl rfl (.of_eq rfl)
    · exact h.finishPass hw
  · exact h

theorem State.SweepOk.offer (f : Finding) : (s.offer f).SweepOk := by
  have hpushed : (s.pushFinding f).SweepOk := h.of_keeps rfl rfl (.of_eq rfl)
  unfold State.offer
  split
  · exact hpushed.advance hw
  · exact h.of_keeps rfl rfl (.of_eq rfl)

theorem State.SweepOk.stepLink (id : Nat) (l : Link) : (s.stepLink id l).SweepOk := by
  have hwritten : (s.writeVerdict id (s.evaluate l)).SweepOk := h.of_keeps rfl rfl (.of_eq rfl)
  unfold State.stepLink
  dsimp only
  split
  · exact hwritten.advance hw
  · exact hwritten.offer hw _

theorem State.SweepOk.stepUnplanned (rx : Nat) : (s.stepUnplanned rx).SweepOk := by
  unfold State.stepUnplanned
  dsimp only
  split
  · exact h.offer hw _
  · exact h.advance hw

theorem State.SweepOk.pushPending {rest : List QueuedFinding} (f : Finding) :
    (State.pushPending f { s with findings := rest }).SweepOk := by
  have hpushed : (State.pushFinding f
      { s with findings := rest, cursor := { s.cursor with pendingFinding := none } }).SweepOk :=
    h.of_keeps rfl rfl (.of_eq rfl)
  exact hpushed.advance hw

end Pass

/-- The pass is under way only where the engine takes steps (R139, R140). -/
theorem State.CursorOk.evaluates {s : State} (h : s.CursorOk) (hw : s.cursor.stage.working = true) :
    s.seq.sweep.evaluates = true := by
  obtain hs | hs := h.sweep hw <;> rw [hs] <;> rfl

-- ==== Every request ====

theorem SlotRecord.not_called_of_enrolled {r : SlotRecord} (h : r.state = .enrolled) : ¬ r.called = true := by
  simp [SlotRecord.called, SlotRecord.isLost, h]

/-- A slot that the sweep does not hold is called by no quiet call (R27, R36). -/
theorem SlotRecord.Sound.not_called_of_free {w : SweepState} {r : SlotRecord} (h : r.Sound w) (hf : r.heldBySweep = false) :
    ¬ r.called = true := by
  intro hc
  have hp := h.participating
  have hheld : r.heldBySweep = true := by
    obtain hs | hs | hs := SlotRecord.called_iff.1 hc
    · exact SlotRecord.heldBySweep_iff.2 (.inl (by rw [hp, hs]; rfl))
    · exact SlotRecord.heldBySweep_iff.2 (.inl (by rw [hp, hs]; rfl))
    · exact SlotRecord.heldBySweep_iff.2 (.inr hs)
  exact absurd (hf.symm.trans hheld) (by decide)

theorem SlotRecord.becomesLost_keepsCall (r : SlotRecord) : r.KeepsCall { r with state := .lost } :=
  ⟨fun _ => SlotRecord.called_iff.2 (.inr (.inl rfl)), rfl, rfl⟩

/-- A slot in CONFLICT is called if the one contested was (R24, R34). -/
theorem SlotRecord.contested_keepsCall (r : SlotRecord) (src : SourceId) : r.KeepsCall (r.contested src) := by
  refine ⟨fun hc => SlotRecord.called_iff.2 (.inr (.inr ⟨rfl, ?_⟩)), rfl, rfl⟩
  obtain hs | hs | ⟨-, hs⟩ := SlotRecord.called_iff.1 hc <;> simp [SlotRecord.contested, hs]

/-- READY is taken from no slot that a quiet call would reach: in ARMING there is none. -/
theorem SlotRecord.Sound.becomesReady_keepsCall {r : SlotRecord} (h : r.Sound .arming)
    (hr : r.state ≠ .conflict ∧ r.state ≠ .lost) : r.KeepsCall { r with state := .ready } := by
  refine ⟨fun hc => ?_, rfl, rfl⟩
  obtain hs | hs | ⟨hs, -⟩ := SlotRecord.called_iff.1 hc
  · exact absurd h.role (by rw [hs]; decide)
  · exact absurd hs hr.2
  · exact absurd hs hr.1

/-- A hold is granted in SETTLE and MEASURE alone, and what remains of it is no part of the phase. -/
theorem State.SweepOk.grantHold {s : State} (h : s.SweepOk) (hw : s.seq.sweep = .settle ∨ s.seq.sweep = .measure)
    (slot granted : Nat) : (s.grantHold slot granted).SweepOk := by
  have hcall : s.Callable := h.callable (by obtain hw | hw := hw <;> rw [hw] <;> rfl)
  have hkeeps : s.KeepsCalls (s.grantHold slot granted) := State.KeepsCalls.of_setSlot ⟨id, rfl, rfl⟩
  refine .of_callable h.timing ?_ (fun _ => hw) (hcall.of_keeps rfl hkeeps)
  have hp := h.phase
  unfold State.Phase at hp ⊢
  obtain hw | hw := hw <;> (rw [hw] at hp; rw [State.grantHold_seq, hw]; exact hp)

theorem BlockWork.sweepOk {src : SourceId} {s t : State} (h : BlockWork src s t) (hr : s.RosterOk) (hc : s.CursorOk)
    (hs : s.SweepOk) : t.SweepOk := by
  have setSlot {slot : Nat} {r : SlotRecord} (hk : (s.slots.get slot).KeepsCall r) : (s.setSlot slot r).SweepOk :=
    hs.of_keeps rfl rfl (.of_setSlot hk)
  cases h with
  | storeTiming f hw =>
    refine .of_atRest hw (timingOf_inRange f) ?_ (hs.hold_eq_zero (by
      constructor <;> (intro he; rw [he] at hw; exact absurd hw (by decide))))
    have hp := hs.phase
    unfold State.Phase at hp ⊢
    dsimp only
    cases hsweep : s.seq.sweep with
    | idle => rw [hsweep] at hp; exact hp
    | done => rw [hsweep] at hp; exact hp
    | aborted => rw [hsweep] at hp; exact hp
    | _ => rw [hsweep] at hw; exact absurd hw (by simp [SweepState.atRest])
  | enrol slot lanes hp hi hl hh he =>
    refine setSlot ?_
    rw [(hr slot).blank he]
    exact ⟨fun hc => absurd hc (by decide), rfl, rfl⟩
  | reenrol => exact setSlot ⟨id, rfl, rfl⟩
  | restart => exact setSlot (SlotRecord.becomesLost_keepsCall _)
  | restartActive => exact (setSlot (SlotRecord.becomesLost_keepsCall _)).activeFell
  | contest => exact setSlot (SlotRecord.contested_keepsCall _ src)
  | contestActive => exact (setSlot (SlotRecord.contested_keepsCall _ src)).activeFell
  | leave slot hl => exact hs.emptySlot fun _ => SlotRecord.not_called_of_enrolled hl
  | release slot hi hb => exact hs.emptySlot fun hw => (hr slot).not_called_of_free (hb hw)
  | addPage => exact setSlot ⟨id, rfl, rfl⟩
  | ready slot ho hw hready => exact setSlot ((hw ▸ hr slot : SlotRecord.Sound .arming _).becomesReady_keepsCall hready)
  | hold slot granted _ hw => exact hs.grantHold hw slot granted
  | quiet slot _ hq => exact hs.quiet hq slot
  | start => exact hs.startSweep
  | abort => exact hs.abortSweep .station
  | continueSettle hw => exact hs.continueSettle hw
  | continueMeasure hw => exact hs.continueMeasure hw
  | continueReduce hw => exact hs.continueReduce hw
  | clearHalt o hw => exact hs.clearHalt hw
  | campaignReset => exact .of_atRest rfl hs.timing rfl rfl
  | releaseAndPush head rest f _ hpending => exact hs.pushPending (hc.evaluates (hc.waiting (by rw [hpending]; rfl))) f
  | _ => exact hs.of_keeps (by simp) (by simp) (.of_eq (by simp))

-- ==== Every marker (R57, R58) ====

/-- The state at a marker, before the test of its phase: the epoch number has risen by one, the timer is reloaded, and the
bookkeeping has kept the quiet call. -/
structure State.Marked (s b : State) : Prop where
  seq    : b.seq = { s.seq with epoch := s.seq.epoch + 1, timer := .running s.timing.period }
  timing : b.timing = s.timing
  calls  : s.KeepsCalls b

theorem State.marked (s : State) : s.Marked s.pulse.bookkeep.emptyWindows where
  seq := by simp
  timing := by simp
  calls := s.pulse.bookkeep_keepsCalls

section Marker

variable {s b : State} (h : s.SweepOk) (hb : s.Marked b)
include h hb

theorem State.Marked.callable (hw : s.seq.sweep.willCall = true) : b.Callable :=
  (h.callable hw).of_keeps (by rw [hb.seq]) hb.calls

theorem State.Marked.callOwed (hw : s.seq.sweep.atRest = false) : b.CallOwed :=
  (h.callOwed hw).of_keeps (by rw [hb.seq]) hb.calls

theorem State.Marked.timing_inRange : b.timing.InRange := hb.timing ▸ h.timing

theorem State.Marked.hold_eq_zero (hw : s.seq.sweep ≠ .settle ∧ s.seq.sweep ≠ .measure) : b.seq.hold = 0 := by
  rw [hb.seq]
  exact h.hold_eq_zero hw

theorem State.Marked.uncalled (hw : s.seq.sweep.early = true) : b.seq.Uncalled := by
  rw [hb.seq]
  exact h.uncalled hw

omit h

theorem State.Marked.epoch : b.seq.epoch = s.seq.epoch + 1 := by rw [hb.seq]

theorem State.Marked.timer : b.seq.timer = .running b.timing.period := by rw [hb.seq, hb.timing]

theorem State.Marked.sweep : b.seq.sweep = s.seq.sweep := by rw [hb.seq]

theorem State.Marked.bounds : b.seq.s0 = s.seq.s0 ∧ b.seq.m0 = s.seq.m0 ∧ b.seq.reduceStart = s.seq.reduceStart ∧
    b.seq.closing = s.seq.closing := by
  rw [hb.seq]
  exact ⟨rfl, rfl, rfl, rfl⟩

theorem State.Marked.call : b.seq.quietCall = s.seq.quietCall ∧ b.seq.quietDeadline = s.seq.quietDeadline := by
  rw [hb.seq]
  exact ⟨rfl, rfl⟩

end Marker

theorem SlotRecord.endArming_quietOwed (r : SlotRecord) : r.endArming.quietOwed = r.quietOwed := by
  unfold SlotRecord.endArming
  split
  · rfl
  · split <;> rfl
  all_goals rfl

/-- At the end of ARMING the slots that were READY will be called by a quiet call. -/
theorem State.callable_of_endArming {b t : State} (hq : t.seq.quietCall = .notStarted)
    (hu : ∀ i, (b.slots.get i).quietOwed = false) (hr : 0 < b.readyCount)
    (ht : t.slots = b.slots.map SlotRecord.endArming) : t.Callable := by
  have hget : ∀ i, t.slots.get i = (b.slots.get i).endArming := fun i => by
    rw [ht]
    exact Table.get_map_default _ _ i rfl
  refine ⟨hq, fun i => ?_, ?_⟩
  · rw [hget, SlotRecord.endArming_quietOwed]
    exact hu i
  · obtain ⟨i, hi, hready⟩ := Table.count_pos.1 hr
    refine ⟨i, hi, SlotRecord.called_iff.2 (.inl ?_)⟩
    rw [hget, SlotRecord.endArming_eq, if_pos (by simpa using hready)]

section Tests

variable {s b : State} (h : s.SweepOk) (hb : s.Marked b)
include h hb

/-- ARMING goes on, ends with some slot READY, or ends with none (R62, R63). -/
theorem State.Marked.testArming (hw : s.seq.sweep = .arming) : b.testArming.SweepOk := by
  have ht := hb.timing_inRange h
  have hhold := hb.hold_eq_zero h (by rw [hw]; decide)
  have hcall := hb.uncalled h (by rw [hw]; rfl)
  have hu : ∀ i, (b.slots.get i).quietOwed = false := fun i =>
    (hb.calls i).owed.trans (h.unowed (by rw [hw]; rfl) (h.uncalled (by rw [hw]; rfl)).1 i)
  have hp := h.phase
  unfold State.Phase at hp
  rw [hw, ← hb.timing] at hp
  obtain ⟨-, hbefore, hs0, hm0, hstart, hclosing, -⟩ := hp
  obtain ⟨hbs0, hbm0, hbstart, hbclosing⟩ := hb.bounds
  obtain ⟨-, ⟨-, harming⟩, ⟨hwindow, -⟩, -⟩ := hb.timing_inRange h
  have he := hb.epoch
  unfold State.testArming
  split
  · split
    · rename_i hready
      have hlow : 1 ≤ b.seq.epoch := by omega
      have hhigh : b.seq.epoch ≤ b.timing.arming := by omega
      cases hstop : b.timing.stopArming with
      | true =>
        rw [State.armed_stopped hstop]
        refine .of_callable ht ?_ (fun hn => absurd rfl hn)
          (State.callable_of_endArming hcall.1 hu hready rfl)
        exact ⟨rfl, hbm0.trans hm0, hbstart.trans hstart, hbclosing.trans hclosing, hcall, rfl, hlow, hhigh⟩
      | false =>
        rw [State.armed_settle hstop]
        refine .of_callable ht ?_ (fun _ => .inl rfl)
          (State.callable_of_endArming hcall.1 hu hready rfl)
        exact ⟨hb.timer, hbm0.trans hm0, hbstart.trans hstart, hbclosing.trans hclosing, hcall, b.seq.epoch, rfl, hlow,
          hhigh, Nat.le_refl _, Nat.lt_add_of_pos_right (Nat.lt_of_lt_of_le (by decide) hwindow)⟩
    · exact .enterTerminal (.inr rfl) ht (by
        show b.seq.epoch ≤ 65535
        omega)
  · rename_i hn
    have hne : b.seq.epoch ≠ b.timing.arming := fun hend => hn (.inr hend)
    refine .of_arming (hb.sweep.trans hw) ht ?_ hhold hcall.1 hu
    unfold State.Phase
    rw [hb.sweep, hw]
    exact ⟨hb.timer, by omega, hbs0.trans hs0, hbm0.trans hm0, hbstart.trans hstart, hbclosing.trans hclosing, hcall⟩

/-- The ALL_LOST abort at a marker of SETTLE or MEASURE (R72). -/
theorem State.Marked.allLost (hw : s.seq.sweep = .settle ∨ s.seq.sweep = .measure)
    (he : b.seq.epoch ≤ b.timing.arming + b.timing.window + b.timing.measure) : b.allLost.SweepOk := by
  have ht := hb.timing_inRange h
  have hcallable := hb.callable h (by obtain hw | hw := hw <;> rw [hw] <;> rfl)
  have habort : b.allLost = b.abortRunning .allLost := by
    unfold State.allLost
    rw [if_pos (by rw [hb.sweep]; obtain hw | hw := hw <;> rw [hw] <;> rfl)]
    exact State.abortSweep_running _ (hb.sweep ▸ hw)
  rw [habort, State.abortRunning_eq_abortStopped hcallable.notStarted hb.timer]
  exact .abortStopped hcallable ht he _

/-- A marker of SETTLE (R64, R65, R72). -/
theorem State.Marked.settle (hw : s.seq.sweep = .settle) (fell : Bool) :
    (if fell then b.allLost else b.testSettle).SweepOk := by
  have ht := hb.timing_inRange h
  have hcallable := hb.callable h (by rw [hw]; rfl)
  have hcall := hb.uncalled h (by rw [hw]; rfl)
  have hp := h.phase
  unfold State.Phase at hp
  rw [hw, ← hb.timing] at hp
  obtain ⟨-, hm0, hstart, hclosing, -, a, hs0, hlow, hhigh, hae, hea⟩ := hp
  obtain ⟨hbs0, hbm0, hbstart, hbclosing⟩ := hb.bounds
  obtain ⟨-, -, -, ⟨hmeasure, -⟩, -⟩ := hb.timing_inRange h
  have he := hb.epoch
  have hbelow : a ≤ b.seq.epoch := by omega
  have habove : b.seq.epoch ≤ a + b.timing.window := by omega
  split
  · exact hb.allLost h (.inl hw) (by omega)
  · unfold State.testSettle
    split
    · cases hstop : b.timing.stopSettle with
      | true =>
        rw [State.endSettle_stopped hstop]
        refine .of_callable ht ?_ (fun hn => absurd rfl hn) ⟨hcall.1, hcallable.unowed, hcallable.called⟩
        exact ⟨rfl, hbstart.trans hstart, hbclosing.trans hclosing, hcall, rfl, a, hbs0.trans hs0, hlow, hhigh, hbelow,
          habove⟩
      | false =>
        rw [State.endSettle_measure hstop]
        refine .of_callable ht ?_ (fun _ => .inr rfl) ⟨hcall.1, hcallable.unowed, hcallable.called⟩
        exact ⟨hb.timer, hbstart.trans hstart, hbclosing.trans hclosing, hcall, a, b.seq.epoch, hbs0.trans hs0, rfl, hlow,
          hhigh, hbelow, habove, Nat.le_refl _, Nat.lt_add_of_pos_right hmeasure⟩
    · rename_i hn
      have hne : a + b.timing.window ≠ b.seq.epoch := fun hend =>
        hn (.inr (by rw [hbs0, hs0, Option.map_some, hend]))
      refine .of_callable ht ?_ (fun _ => .inl (hb.sweep.trans hw)) hcallable
      unfold State.Phase
      rw [hb.sweep, hw]
      exact ⟨hb.timer, hbm0.trans hm0, hbstart.trans hstart, hbclosing.trans hclosing, hcall, a, hbs0.trans hs0, hlow, hhigh,
        hbelow, by omega⟩

/-- A marker of MEASURE (R66, R72). -/
theorem State.Marked.measure (hw : s.seq.sweep = .measure) (fell : Bool) :
    (if fell then b.allLost else b.testMeasure).SweepOk := by
  have ht := hb.timing_inRange h
  have hcallable := hb.callable h (by rw [hw]; rfl)
  have hcall := hb.uncalled h (by rw [hw]; rfl)
  have hp := h.phase
  unfold State.Phase at hp
  rw [hw, ← hb.timing] at hp
  obtain ⟨-, hstart, hclosing, -, a, m, hs0, hm0, hlow, hhigh, ham, hma, hme, hem⟩ := hp
  obtain ⟨hbs0, hbm0, hbstart, hbclosing⟩ := hb.bounds
  obtain ⟨-, ⟨-, harming⟩, ⟨-, hwindow⟩, ⟨-, hmeasure⟩, -⟩ := hb.timing_inRange h
  have he := hb.epoch
  split
  · exact hb.allLost h (.inr hw) (by omega)
  · by_cases hend : m + b.timing.measure = b.seq.epoch
    · rw [State.testMeasure_ends (hbm0.trans hm0) hend]
      cases hstop : b.timing.stopMeasure with
      | true =>
        rw [State.endMeasure_stopped hstop]
        refine .of_callable ht ?_ (fun hn => absurd rfl hn) ⟨hcall.1, hcallable.unowed, hcallable.called⟩
        exact ⟨rfl, rfl, rfl, hcall, a, m, hbs0.trans hs0, hbm0.trans hm0, hlow, hhigh, ham, hma, hend.symm⟩
      | false =>
        rw [State.endMeasure_reduce hstop]
        refine .of_callOwed rfl ht ?_ rfl (by decide : QuietCall.pending ≠ .notStarted)
          (hcallable.callOwed rfl)
        refine ⟨.inl hb.timer, QuietCall.noConfusion, a, m, hbs0.trans hs0, hbm0.trans hm0, hlow, hhigh, ham, hma,
          congrArg some hend.symm, congrArg some hend.symm, congrArg (fun n => some (n + 4)) hend.symm, hend.le, ?_,
          fun _ => ?_⟩
        · show b.seq.epoch ≤ 65535
          omega
        · show b.seq.epoch < m + b.timing.measure + 4
          omega
    · rw [State.testMeasure_waits fun m' hm' he' => hend (by
        rw [hbm0.trans hm0] at hm'
        rw [Option.some.inj hm', he'])]
      refine .of_callable ht ?_ (fun _ => .inr (hb.sweep.trans hw)) hcallable
      unfold State.Phase
      rw [hb.sweep, hw]
      exact ⟨hb.timer, hbstart.trans hstart, hbclosing.trans hclosing, hcall, a, m, hbs0.trans hs0, hbm0.trans hm0, hlow,
        hhigh, ham, hma, by omega, by omega⟩

/-- A marker of ABORTING: the quiet deadline may pass (R75). -/
theorem State.Marked.aborting (hw : s.seq.sweep = .aborting) : (b.testDeadline .aborting).SweepOk := by
  have ht := hb.timing_inRange h
  have howed := hb.callOwed h (by rw [hw]; rfl)
  have hp := h.phase
  unfold State.Phase at hp
  rw [hw, ← hb.timing] at hp
  obtain ⟨-, hcall, hclosing, d, hdeadline, hbefore, hd⟩ := hp
  obtain ⟨-, -, -, hbclosing⟩ := hb.bounds
  obtain ⟨hbcall, hbdeadline⟩ := hb.call
  have he := hb.epoch
  have hpending : b.seq.quietCall = .pending := hbcall.trans hcall
  have hsome : b.someOwing = true := by
    obtain ⟨i, hi, ho⟩ := howed.pending hpending
    exact State.someOwing_iff.2 ⟨i, hi, SlotRecord.owing_iff.1 ho⟩
  by_cases hend : d = b.seq.epoch
  · rw [State.testDeadline_missed ⟨hpending, by rw [hbdeadline, hdeadline, hend], hsome⟩]
    refine .of_callOwed rfl ht ?_ rfl (by
      show b.seq.quietCall ≠ .notStarted
      rw [hpending]
      decide) ⟨howed.owed, howed.pending⟩
    exact ⟨rfl, by show b.seq.quietCall ≠ .notStarted; rw [hpending]; decide,
      by show b.seq.quietDeadline = some b.seq.epoch; rw [hbdeadline, hdeadline, hend],
      by show b.seq.epoch ≤ b.timing.arming + b.timing.window + b.timing.measure + 4; omega⟩
  · rw [State.testDeadline_passed fun hm => hend (Option.some.inj ((hbdeadline.trans hdeadline).symm.trans hm.2.1))]
    refine .of_callOwed (by rw [hb.sweep, hw]; rfl) ht ?_ (hb.hold_eq_zero h (by rw [hw]; decide))
      (by rw [hpending]; decide) howed
    unfold State.Phase
    rw [hb.sweep, hw]
    exact ⟨hb.timer, hpending, by rw [hbclosing]; exact hclosing, d, hbdeadline.trans hdeadline, by omega, hd⟩

/-- A marker of REDUCE: the pass may start, which is no part of the sweep, and the quiet deadline may pass (R67, R75). -/
theorem State.Marked.reduce (hw : s.seq.sweep = .reduce) (hlast : s.seq.epoch ≠ 65535) :
    (b.testReduce.testDeadline .reduce).SweepOk := by
  have ht := hb.timing_inRange h
  have howed := hb.callOwed h (by rw [hw]; rfl)
  have hhold := hb.hold_eq_zero h (by rw [hw]; decide)
  have hp := h.phase
  unfold State.Phase at hp
  rw [hw, ← hb.timing] at hp
  obtain ⟨-, hcall, a, m, hs0, hm0, hlow, hhigh, ham, hma, hstart, hclosing, hdeadline, hme, hle, hbefore⟩ := hp
  obtain ⟨hbs0, hbm0, hbstart, hbclosing⟩ := hb.bounds
  obtain ⟨hbcall, hbdeadline⟩ := hb.call
  have he := hb.epoch
  have hstarted : b.seq.quietCall ≠ .notStarted := hbcall ▸ hcall
  obtain ⟨cursor, v, hpass⟩ := b.testReduce_evaluation
  rw [hpass]
  by_cases hmissed : b.seq.quietCall = .pending ∧ b.seq.quietDeadline = some b.seq.epoch ∧ b.someOwing = true
  · have hend : m + b.timing.measure + 4 = b.seq.epoch :=
      Option.some.inj ((hbdeadline.trans hdeadline).symm.trans hmissed.2.1)
    rw [State.testDeadline_missed (s := { b with cursor := cursor, seq := { b.seq with evaluation := v } }) hmissed]
    refine .of_callOwed rfl ht ?_ rfl hstarted ⟨howed.owed, howed.pending⟩
    exact ⟨rfl, hstarted, hmissed.2.1, a, m, hbs0.trans hs0, hbm0.trans hm0, hlow, hhigh, ham, hma, hbstart.trans hstart,
      hbclosing.trans hclosing, hend.symm⟩
  · have hahead : b.seq.quietCall = .pending → b.seq.epoch < m + b.timing.measure + 4 := by
      intro hpending
      have hbelow := hbefore (hbcall ▸ hpending)
      obtain ⟨i, hi, ho⟩ := howed.pending hpending
      have hne : b.seq.epoch ≠ m + b.timing.measure + 4 := fun hend =>
        hmissed ⟨hpending, by rw [hbdeadline, hdeadline, hend], State.someOwing_iff.2 ⟨i, hi, SlotRecord.owing_iff.1 ho⟩⟩
      omega
    rw [State.testDeadline_passed (s := { b with cursor := cursor, seq := { b.seq with evaluation := v } }) hmissed]
    refine .of_callOwed (by show b.seq.sweep.willCall = false; rw [hb.sweep, hw]; rfl) ht ?_ hhold hstarted
      ⟨howed.owed, howed.pending⟩
    unfold State.Phase
    dsimp only
    rw [hb.sweep, hw]
    exact ⟨.inl hb.timer, hstarted, a, m, hbs0.trans hs0, hbm0.trans hm0, hlow, hhigh, ham, hma, hbstart.trans hstart,
      hbclosing.trans hclosing, hbdeadline.trans hdeadline, by omega, by omega, hahead⟩

/-- The phase test of every state whose timer runs. -/
theorem State.Marked.phaseTest {p : Nat} (hrun : s.seq.timer = .running p) (hlast : s.seq.epoch ≠ 65535) (fell : Bool) :
    (b.phaseTest fell).SweepOk := by
  have stands : s.seq.timer ≠ .running p → (b.phaseTest fell).SweepOk := fun hn => absurd hrun hn
  have hp := h.phase
  unfold State.Phase at hp
  cases hw : s.seq.sweep with
  | arming =>
    rw [State.phaseTest_arming (hb.sweep.trans hw)]
    exact hb.testArming h hw
  | settle =>
    have htest : b.phaseTest fell = if fell then b.allLost else b.testSettle := by simp [State.phaseTest, hb.sweep, hw]
    rw [htest]
    exact hb.settle h hw fell
  | measure =>
    have htest : b.phaseTest fell = if fell then b.allLost else b.testMeasure := by simp [State.phaseTest, hb.sweep, hw]
    rw [htest]
    exact hb.measure h hw fell
  | reduce =>
    rw [State.phaseTest_reduce (hb.sweep.trans hw)]
    exact hb.reduce h hw hlast
  | aborting =>
    rw [State.phaseTest_aborting (hb.sweep.trans hw)]
    exact hb.aborting h hw
  | idle => rw [hw] at hp; exact stands (by rw [show s.seq = {} from hp]; simp)
  | stopped resume => rw [hw] at hp; cases resume <;> exact stands (by rw [hp.1]; simp)
  | halted origin => rw [hw] at hp; cases origin <;> exact stands (by rw [hp.1]; simp)
  | done => rw [hw] at hp; exact stands (by rw [hp.1]; simp)
  | aborted => rw [hw] at hp; exact stands (by rw [hp.1]; simp)

end Tests

/-- A timer that is reloaded while hold remains (R57, R82). -/
theorem State.SweepOk.reload {s : State} (h : s.SweepOk) (hh : 0 < s.seq.hold) :
    State.SweepOk { s with seq := { s.seq with hold := s.seq.hold - 1, timer := .running s.timing.period } } := by
  have hw := h.hold (by omega)
  have hcall : s.Callable := h.callable (by obtain hw | hw := hw <;> rw [hw] <;> rfl)
  refine .of_callable h.timing ?_ (fun _ => hw) ⟨hcall.notStarted, hcall.unowed, hcall.called⟩
  have hp := h.phase
  unfold State.Phase at hp ⊢
  dsimp only
  obtain hw | hw := hw <;> (rw [hw] at hp ⊢; exact ⟨rfl, hp.2⟩)

/-- Only REDUCE after its quiet call comes to epoch 65535 with the timer running (R57). -/
theorem State.SweepOk.stopTimer {s : State} (h : s.SweepOk) {p : Nat} (hrun : s.seq.timer = .running p)
    (hlast : s.seq.epoch = 65535) : State.SweepOk { s with seq := { s.seq with timer := .haltedOff } } := by
  have hlate : s.seq.sweep.willCall = false := by
    rw [Bool.eq_false_iff]
    intro hcall
    have := h.epoch_le_bound hcall
    obtain ⟨-, ⟨-, harming⟩, ⟨-, hwindow⟩, ⟨-, hmeasure⟩, -⟩ := h.timing
    omega
  have stands {P : Prop} (hn : s.seq.timer ≠ .running p) : P := absurd hrun hn
  obtain ⟨-, ⟨-, harming⟩, ⟨-, hwindow⟩, ⟨-, hmeasure⟩, -⟩ := h.timing
  have hp := h.phase
  unfold State.Phase at hp
  cases hw : s.seq.sweep with
  | reduce =>
    rw [hw] at hp
    obtain ⟨-, hcall, a, m, hs0, hm0, hlow, hhigh, ham, hma, hstart, hclosing, hdeadline, hme, hle, hbefore⟩ := hp
    have hcomplete : s.seq.quietCall = .complete := by
      cases hq : s.seq.quietCall with
      | notStarted => exact absurd hq hcall
      | pending => have := hbefore hq; omega
      | complete => rfl
    refine .of_callOwed hlate h.timing ?_ (h.hold_eq_zero (by rw [hw]; decide)) hcall (.of_complete hcomplete)
    unfold State.Phase
    dsimp only
    rw [hw]
    exact ⟨.inr ⟨rfl, hlast, hcomplete⟩, hcall, a, m, hs0, hm0, hlow, hhigh, ham, hma, hstart, hclosing, hdeadline, hme, hle,
      hbefore⟩
  | arming => rw [hw] at hp; obtain ⟨-, he, -⟩ := hp; omega
  | aborting => rw [hw] at hp; obtain ⟨-, -, -, d, -, hd, he⟩ := hp; omega
  | idle => rw [hw] at hp; exact stands (by rw [show s.seq = {} from hp]; simp)
  | halted origin => rw [hw] at hp; cases origin <;> exact stands (by rw [hp.1]; simp)
  | done => rw [hw] at hp; exact stands (by rw [hp.1]; simp)
  | aborted => rw [hw] at hp; exact stands (by rw [hp.1]; simp)
  | _ => rw [hw] at hlate; exact absurd hlate (by simp [SweepState.willCall])

theorem State.SweepOk.expire {s : State} (h : s.SweepOk) (ht : ∃ p, s.seq.timer = .running p) : s.expire.SweepOk := by
  obtain ⟨p, hrun⟩ := ht
  unfold State.expire
  split
  · exact h.reload (by assumption)
  · split
    · exact h.stopTimer hrun (by assumption)
    · exact s.marked.phaseTest h hrun (by assumption) _

end Sys2Proof.Machine
end

section
/-!
The evaluation cursor (R139, R140), the planned links of a sweep (R105) and the sequence numbers (R164), kept by every request,
every marker and every step of the pass.
-/

namespace Sys2Proof.Machine

-- ==== What it takes for the cursor to stand well ====

/-- The sweep states in which the pass is under way or complete: REDUCE past the gathering epoch, and HALTED from it (R67, R71). -/
def State.PassBegun (s : State) : Prop :=
  s.seq.sweep = .halted .reduce ∨ (s.seq.sweep = .reduce ∧ s.seq.reduceStart ≠ some s.seq.epoch)

/-- Where neither the cursor nor what it depends on has changed, it stands as it did. -/
theorem State.CursorOk.of_same {s t : State} (h : s.CursorOk) (hc : t.cursor = s.cursor)
    (he : t.seq.evaluation = s.seq.evaluation) (hw : t.seq.sweep = s.seq.sweep)
    (hg : t.seq.reduceStart = s.seq.reduceStart ∧ t.seq.epoch = s.seq.epoch)
    (hl : s.cursor.stage = .links → t.links = s.links) : t.CursorOk where
  follows := by rw [he, hc]; exact h.follows
  sweep := by rw [hc, hw]; exact h.sweep
  waiting := by rw [hc]; exact h.waiting
  links := by
    rw [hc]
    intro hs
    rw [hl hs]
    exact h.links hs
  unplanned := by rw [hc]; exact h.unplanned
  idle := by rw [hc]; exact h.idle
  early := by rw [hc, hw]; exact h.early
  gathering := by rw [hc, hw, hg.1, hg.2]; exact h.gathering
  begun := by rw [hc, hw, hg.1, hg.2]; exact h.begun

/-- A pass that has not begun stands well wherever it need not have. -/
theorem State.CursorOk.of_notStarted {s t : State} (h : s.CursorOk) (hs : s.cursor.stage = .notStarted)
    (hc : t.cursor = s.cursor) (he : t.seq.evaluation = s.seq.evaluation) (hb : ¬ t.PassBegun) : t.CursorOk where
  follows := by rw [he, hc]; exact h.follows
  sweep hw := by rw [hc, hs] at hw; exact absurd hw (by decide)
  waiting := by rw [hc]; exact h.waiting
  links hl := by rw [hc, hs] at hl; exact absurd hl (by decide)
  unplanned hu := by rw [hc, hs] at hu; exact absurd hu (by decide)
  idle _ := by rw [hc]; exact h.idle (.inl hs)
  early _ := by rw [hc, hs]
  gathering _ _ := by rw [hc, hs]
  begun hpass := absurd hpass hb

/-- The sweep states in which no pass is under way, begun or not. -/
def SweepState.passOver : SweepState → Bool
  | .idle => true
  | .aborting => true
  | .halted .aborting => true
  | .done => true
  | .aborted => true
  | .halted .reduce => false
  | .arming => false
  | .settle => false
  | .measure => false
  | .stopped _ => false
  | .reduce => false

theorem SweepState.passOver_facts {w : SweepState} (h : w.passOver = true) :
    w.early = false ∧ w ≠ .reduce ∧ w ≠ .halted .reduce := by
  refine ⟨?_, by rintro rfl; exact absurd h (by decide), by rintro rfl; exact absurd h (by decide)⟩
  revert h
  cases w <;> simp [SweepState.passOver, SweepState.early]

/-- A pass that is not working stands well where the sweep has done with it. -/
theorem State.CursorOk.of_passOver {s t : State} (h : s.CursorOk) (hs : s.cursor.stage.working = false)
    (hc : t.cursor = s.cursor) (he : t.seq.evaluation = s.seq.evaluation) (hw : t.seq.sweep.passOver = true) :
    t.CursorOk := by
  obtain ⟨hearly, hreduce, hhalted⟩ := SweepState.passOver_facts hw
  exact
    { follows := by rw [he, hc]; exact h.follows
      sweep := fun hs' => by rw [hc, hs] at hs'; exact absurd hs' (by decide)
      waiting := by rw [hc]; exact h.waiting
      links := fun hl => by rw [hc] at hl; rw [hl] at hs; exact absurd hs (by decide)
      unplanned := fun hu => by rw [hc] at hu; rw [hu] at hs; exact absurd hs (by decide)
      idle := by rw [hc]; exact h.idle
      early := fun hw' => absurd (hearly.symm.trans hw') (by decide)
      gathering := fun hw' => absurd hw' hreduce
      begun := fun hw' => (hw'.elim (fun hw' => absurd hw' hhalted) fun hw' => absurd hw'.1 hreduce) }

/-- The pass is not working in a sweep state that has done with it, nor where it is recorded as COMPLETE. -/
theorem State.CursorOk.not_working {s : State} (h : s.CursorOk)
    (hw : (s.seq.sweep ≠ .reduce ∧ s.seq.sweep ≠ .halted .reduce) ∨ s.seq.evaluation = .complete) :
    s.cursor.stage.working = false := by
  rw [Bool.eq_false_iff]
  intro hworking
  obtain ⟨hr, hh⟩ | hcomplete := hw
  · exact (h.sweep hworking).elim hr hh
  · have hfollows := h.follows
    rw [hcomplete] at hfollows
    revert hworking hfollows
    cases s.cursor.stage <;> simp [Stage.working, Stage.record]

theorem State.reset_cursorOk : State.reset.CursorOk where
  follows := rfl
  sweep h := absurd h (by decide)
  waiting h := absurd h (by decide)
  links h := absurd h (by decide)
  unplanned h := absurd h (by decide)
  idle _ := rfl
  early h := absurd h (by decide)
  gathering h := absurd h (by decide)
  begun h := absurd h (by simp [State.reset])

-- ==== The steps of the pass (R140, R155) ====

section Pass

variable {s : State} (h : s.CursorOk) (hs : s.cursor.stage.working = true)
include h hs

/-- While the pass is working, it is not gathering. -/
theorem State.CursorOk.not_gathering : ¬ (s.seq.sweep = .reduce ∧ s.seq.reduceStart = some s.seq.epoch) := by
  rintro ⟨hw, hstart⟩
  rw [h.gathering hw hstart] at hs
  exact absurd hs (by decide)

theorem State.CursorOk.not_early : s.seq.sweep.early = false := by
  obtain hw | hw := h.sweep hs <;> rw [hw] <;> rfl

/-- A working pass goes on from another place that the stage allows. -/
theorem State.CursorOk.move {t : State} (hq : t.seq = s.seq) (ht : t.cursor.stage.working = true)
    (hl : t.cursor.stage = .links → ∃ k l, t.cursor.position = some k ∧ k ≤ 511 ∧ t.links.get k = some l)
    (hu : t.cursor.stage = .unplanned → ∃ e, t.cursor.position = some e ∧ e ≤ 767) : t.CursorOk where
  follows := by
    have hfollows := h.follows
    rw [hq, hfollows]
    revert hs ht
    cases s.cursor.stage <;> cases t.cursor.stage <;> simp [Stage.working, Stage.record]
  sweep _ := by rw [hq]; exact h.sweep hs
  waiting _ := ht
  links := hl
  unplanned := hu
  idle hi := by obtain hi | hi := hi <;> (rw [hi] at ht; exact absurd ht (by decide))
  early he := by rw [hq, h.not_early hs] at he; exact absurd he (by decide)
  gathering hw hg := by rw [hq] at hw hg; exact absurd ⟨hw, hg⟩ (h.not_gathering hs)
  begun _ := by constructor <;> (intro hi; rw [hi] at ht; exact absurd ht (by decide))

/-- The end of the pass, with nothing waiting (R155). -/
theorem State.CursorOk.finishPass (hp : s.cursor.pendingFinding = none) : s.finishPass.CursorOk := by
  unfold State.finishPass
  dsimp only
  have complete {t : State} (hc : t.cursor = { s.cursor with stage := .complete, position := none })
      (he : t.seq.evaluation = .complete) (hearly : t.seq.sweep.early = false)
      (hg : ¬ (t.seq.sweep = .reduce ∧ t.seq.reduceStart = some t.seq.epoch)) : t.CursorOk :=
    { follows := by rw [he, hc]; rfl
      sweep := fun hw => by rw [hc] at hw; exact absurd hw (by simp [Stage.working])
      waiting := fun hw => by rw [hc, hp] at hw; exact absurd hw (by decide)
      links := fun hl => by rw [hc] at hl; exact absurd hl (by simp)
      unplanned := fun hu => by rw [hc] at hu; exact absurd hu (by simp)
      idle := fun _ => by rw [hc]
      early := fun hw => absurd (hearly.symm.trans hw) (by decide)
      gathering := fun hw hst => absurd ⟨hw, hst⟩ hg
      begun := fun _ => by rw [hc]; exact ⟨by simp, by simp⟩ }
  split
  · exact complete rfl rfl rfl fun hw => absurd hw.1 (by simp)
  · exact complete rfl rfl (h.not_early hs) (h.not_gathering hs)

/-- The position moves on when nothing is waiting (R140). -/
theorem State.CursorOk.advance (hp : s.cursor.pendingFinding = none) : s.advance.CursorOk := by
  unfold State.advance
  split
  · rename_i k hstage hpos
    split
    · rename_i j hj
      obtain ⟨hlt, hused, -⟩ := Table.first_eq_some hj
      rw [Bool.and_eq_true, Option.isSome_iff_exists] at hused
      obtain ⟨-, l, hl⟩ := hused
      exact h.move hs rfl hs (fun _ => ⟨j, l, rfl, Nat.le_of_lt_succ hlt, hl⟩) fun hu =>
        absurd (hstage.symm.trans hu) (by decide)
    · exact h.move hs rfl rfl (fun hl => absurd hl (by simp)) fun _ => ⟨0, rfl, by decide⟩
  · rename_i e hstage hpos
    split
    · rename_i he
      exact h.move hs rfl hs (fun hl => absurd (hstage.symm.trans hl) (by decide)) fun _ =>
        ⟨e + 1, rfl, Nat.le_of_lt_succ he⟩
    · exact h.finishPass hs hp
  · exact h

/-- A finding offered waits where the pass stands, or lets it move on. -/
theorem State.CursorOk.offer (hp : s.cursor.pendingFinding = none) (f : Finding) : (s.offer f).CursorOk := by
  have hpushed : (s.pushFinding f).CursorOk := h.of_same rfl rfl rfl ⟨rfl, rfl⟩ fun _ => rfl
  unfold State.offer
  split
  · exact hpushed.advance hs hp
  · exact h.move hs rfl hs h.links h.unplanned

theorem State.CursorOk.stepLink (hp : s.cursor.pendingFinding = none) (id : Nat) (l : Link) :
    (s.stepLink id l).CursorOk := by
  have hwritten : (s.writeVerdict id (s.evaluate l)).CursorOk := h.of_same rfl rfl rfl ⟨rfl, rfl⟩ fun _ => rfl
  unfold State.stepLink
  dsimp only
  split
  · exact hwritten.advance hs hp
  · exact hwritten.offer hs hp _

theorem State.CursorOk.stepUnplanned (hp : s.cursor.pendingFinding = none) (rx : Nat) : (s.stepUnplanned rx).CursorOk := by
  unfold State.stepUnplanned
  dsimp only
  split
  · exact h.offer hs hp _
  · exact h.advance hs hp

theorem State.CursorOk.pushPending (f : Finding) (rest : List QueuedFinding) :
    (State.pushPending f { s with findings := rest }).CursorOk := by
  have hfreed : (State.pushFinding f
      { s with findings := rest, cursor := { s.cursor with pendingFinding := none } }).CursorOk :=
    h.move hs rfl hs h.links h.unplanned
  exact hfreed.advance hs rfl

end Pass

-- ==== An abort (R71, R158) ====

/-- The pass stopped: its position stays, and nothing waits. -/
theorem State.CursorOk.of_stopped {t : State} (hs : t.cursor.stage = .stopped) (hp : t.cursor.pendingFinding = none)
    (he : t.seq.evaluation = .stopped) (hw : t.seq.sweep.passOver = true) : t.CursorOk := by
  obtain ⟨hearly, hreduce, hhalted⟩ := SweepState.passOver_facts hw
  exact
    { follows := by rw [he, hs]; rfl
      sweep := fun h => by rw [hs] at h; exact absurd h (by decide)
      waiting := fun h => by rw [hp] at h; exact absurd h (by decide)
      links := fun h => by rw [hs] at h; exact absurd h (by decide)
      unplanned := fun h => by rw [hs] at h; exact absurd h (by decide)
      idle := fun h => by rw [hs] at h; exact absurd h (by decide)
      early := fun h => absurd (hearly.symm.trans h) (by decide)
      gathering := fun h => absurd h hreduce
      begun := fun h => (h.elim (fun h => absurd h hhalted) fun h => absurd h.1 hreduce) }

/-- What stopping the pass does to it (R158). -/
theorem State.stopPass_cases (s : State) :
    (s.cursor.stage.working = false ∧ s.stopPass = s) ∨
      s.stopPass = { s with
        cursor := { s.cursor with stage := .stopped, pendingFinding := none }
        seq := { s.seq with evaluation := .stopped } } := by
  unfold State.stopPass
  cases hs : s.cursor.stage with
  | complete => exact .inl ⟨rfl, rfl⟩
  | stopped => exact .inl ⟨rfl, rfl⟩
  | _ => exact .inr rfl

/-- An abort out of REDUCE stops the pass, and the sweep has done with it. -/
theorem State.CursorOk.abortReduce {s : State} (h : s.CursorOk) (c : AbortCause) : (s.abortReduce c).CursorOk := by
  unfold State.abortReduce
  obtain ⟨hidle, hstop⟩ | hstop := (s.setCause c).stopPass_cases
  · rw [hstop]
    dsimp only
    split <;> exact h.of_passOver hidle rfl rfl rfl
  · rw [hstop]
    dsimp only
    split <;> exact .of_stopped rfl rfl rfl rfl

theorem State.abortStopped_evaluation (c : AbortCause) (s : State) :
    (s.abortStopped c).seq.evaluation = s.seq.evaluation := by
  unfold State.abortStopped State.ensureQuietCall
  split <;> rfl

theorem State.CursorOk.abortSweep {s : State} (h : s.CursorOk) (c : AbortCause) : (s.abortSweep c).CursorOk := by
  have early (hw : s.seq.sweep.early = true) {t : State} (hc : t.cursor = s.cursor)
      (he : t.seq.evaluation = s.seq.evaluation) (ht : t.seq.sweep.passOver = true) : t.CursorOk :=
    h.of_passOver (by rw [h.early hw]; rfl) hc he ht
  unfold State.abortSweep
  cases hw : s.seq.sweep with
  | reduce => exact h.abortReduce c
  | arming => exact early (by rw [hw]; rfl) rfl rfl rfl
  | settle => exact early (by rw [hw]; rfl) rfl rfl rfl
  | measure => exact early (by rw [hw]; rfl) rfl rfl rfl
  | stopped resume =>
    have hearly : s.seq.sweep.early = true := by rw [hw]; rfl
    cases resume with
    | settle => exact early hearly rfl rfl rfl
    | measure => exact early hearly (s.abortStopped_cursor c) (s.abortStopped_evaluation c) rfl
    | reduce => exact early hearly (s.abortStopped_cursor c) (s.abortStopped_evaluation c) rfl
  | _ => exact h

theorem State.CursorOk.allLost {s : State} (h : s.CursorOk) : s.allLost.CursorOk := by
  unfold State.allLost
  split
  · exact h.abortSweep .allLost
  · exact h

theorem State.CursorOk.activeFell {s : State} (h : s.CursorOk) : s.activeFell.CursorOk := by
  unfold State.activeFell
  split
  · exact h.allLost
  · exact h

-- ==== The requests ====

/-- The end of the quiet call leads out of the pass only where the sweep has done with it or it is complete (R74). -/
theorem State.CursorOk.quietAnswered {s : State} (h : s.CursorOk) : s.quietAnswered.CursorOk := by
  by_cases hsome : s.someOwing = true
  · rw [State.quietAnswered_owing hsome]
    exact h
  by_cases haborting : s.seq.sweep = .aborting
  · rw [State.quietAnswered_ends hsome (.inl ⟨haborting, rfl⟩)]
    exact h.of_passOver (h.not_working (.inl (by rw [haborting]; decide))) rfl rfl rfl
  by_cases hreduce : s.seq.sweep = .reduce ∧ s.seq.evaluation = .complete
  · rw [State.quietAnswered_ends hsome (.inr ⟨hreduce.1, hreduce.2, rfl⟩)]
    exact h.of_passOver (h.not_working (.inr hreduce.2)) rfl rfl rfl
  · rw [State.quietAnswered_goesOn hsome haborting hreduce]
    exact h.of_same rfl rfl rfl ⟨rfl, rfl⟩ fun _ => rfl

/-- CLEAR HALT leaves the pass where it stands: over, or under way in REDUCE past the gathering epoch (R77). -/
theorem State.CursorOk.clearHalt {s : State} (h : s.CursorOk) (hsweep : s.SweepOk) {o : HaltOrigin}
    (hw : s.seq.sweep = .halted o) : (s.answerQuiet.leaveHalt o).CursorOk := by
  cases o with
  | aborting => exact h.of_passOver (h.not_working (.inl (by rw [hw]; decide))) rfl rfl rfl
  | reduce =>
    have hp := hsweep.phase
    unfold State.Phase at hp
    rw [hw] at hp
    obtain ⟨-, -, -, a, b, -, -, -, -, -, -, hstart, -, he⟩ := hp
    have hpast : s.seq.reduceStart ≠ some s.seq.epoch := by
      rw [hstart, he]
      intro heq
      have := Option.some.inj heq
      omega
    unfold State.leaveHalt
    dsimp only
    split
    · rename_i hcomplete
      exact h.of_passOver (h.not_working (.inr hcomplete)) rfl rfl rfl
    · exact
        { follows := h.follows
          sweep := fun _ => .inl rfl
          waiting := h.waiting
          links := h.links
          unplanned := h.unplanned
          idle := h.idle
          early := fun hearly => by simp [SweepState.early] at hearly
          gathering := fun _ hg => absurd hg hpast
          begun := fun _ => h.begun (.inl hw) }

theorem BlockWork.cursorOk {src : SourceId} {s t : State} (h : BlockWork src s t) (hsweep : s.SweepOk) (hs : s.CursorOk) :
    t.CursorOk := by
  have setSlot (slot : Nat) (r : SlotRecord) : (s.setSlot slot r).CursorOk :=
    hs.of_same rfl rfl rfl ⟨rfl, rfl⟩ fun _ => rfl
  have atRest (hw : s.seq.sweep.atRest = true) : s.cursor.stage ≠ .links := fun hl => by
    have hidle := hs.not_working (.inl (by constructor <;> (intro he; rw [he] at hw; exact absurd hw (by decide))))
    rw [hl] at hidle
    exact absurd hidle (by decide)
  have early (hw : s.seq.sweep.early = true) {u : State} (hc : u.cursor = s.cursor)
      (he : u.seq.evaluation = s.seq.evaluation) (hb : ¬ u.PassBegun) : u.CursorOk :=
    hs.of_notStarted (hs.early hw) hc he hb
  cases h with
  | storeLink f k hw => exact hs.of_same rfl rfl rfl ⟨rfl, rfl⟩ fun hl => absurd hl (atRest hw)
  | removeLink id hw => exact hs.of_same rfl rfl rfl ⟨rfl, rfl⟩ fun hl => absurd hl (atRest hw)
  | emptyPlan hw => exact hs.of_same rfl rfl rfl ⟨rfl, rfl⟩ fun hl => absurd hl (atRest hw)
  | restartActive slot => exact (setSlot slot _).activeFell
  | contestActive slot => exact (setSlot slot _).activeFell
  | quiet slot =>
    have hacknowledged : (s.acknowledge slot).CursorOk := setSlot slot _
    exact hacknowledged.quietAnswered
  | start => exact State.reset_cursorOk.of_notStarted rfl rfl rfl (by simp [State.PassBegun])
  | campaignReset => exact State.reset_cursorOk.of_notStarted rfl rfl rfl (by simp [State.PassBegun])
  | abort => exact hs.abortSweep .station
  | continueSettle hw => exact early (by rw [hw]; rfl) rfl rfl (by simp [State.PassBegun])
  | continueMeasure hw => exact early (by rw [hw]; rfl) rfl rfl (by simp [State.PassBegun])
  | continueReduce hw =>
    have hp := hsweep.phase
    unfold State.Phase at hp
    rw [hw] at hp
    exact early (by rw [hw]; rfl) rfl rfl (by simp [State.PassBegun, hp.2.1])
  | clearHalt o hw => exact hs.clearHalt hsweep hw
  | releaseAndPush head rest f _ hpending => exact hs.pushPending (hs.waiting (by rw [hpending]; rfl)) f rest
  | _ => exact hs.of_same (by simp) (by simp) (by simp) (by simp) fun _ => by simp

end Sys2Proof.Machine
end

section
/-!
The evaluation cursor at an expiry of the epoch timer (R58, R67, R140), and the sweep with its cursor kept by every step.
-/

namespace Sys2Proof.Machine

-- ==== A marker before REDUCE leaves the pass alone ====

/-- `t` has the pass of `s`, which has not begun. -/
structure State.LeavesPass (s t : State) : Prop where
  cursor     : t.cursor = s.cursor
  evaluation : t.seq.evaluation = s.seq.evaluation
  unbegun    : ¬ t.PassBegun

theorem State.LeavesPass.cursorOk {s t : State} (h : s.LeavesPass t) (hs : s.CursorOk) (hn : s.cursor.stage = .notStarted) :
    t.CursorOk :=
  hs.of_notStarted hn h.cursor h.evaluation h.unbegun

/-- The sweep states where a pass may be under way are REDUCE and HALTED from it. -/
theorem State.not_passBegun {s : State} (hr : s.seq.sweep ≠ .reduce) (hh : s.seq.sweep ≠ .halted .reduce) :
    ¬ s.PassBegun := by
  rintro (hw | hw)
  · exact hh hw
  · exact hr hw.1

theorem State.testArming_leavesPass {s : State} (hw : s.seq.sweep = .arming) : s.LeavesPass s.testArming := by
  unfold State.testArming
  split
  · split
    · unfold State.armed
      dsimp only
      split <;> exact ⟨rfl, rfl, State.not_passBegun (by simp [State.enterStopped]) (by simp [State.enterStopped])⟩
    · exact ⟨rfl, rfl, State.not_passBegun (by simp [State.enterTerminal]) (by simp [State.enterTerminal])⟩
  · exact ⟨rfl, rfl, State.not_passBegun (by simp [hw]) (by simp [hw])⟩

theorem State.testSettle_leavesPass {s : State} (hw : s.seq.sweep = .settle) : s.LeavesPass s.testSettle := by
  unfold State.testSettle
  split
  · unfold State.endSettle
    dsimp only
    split <;> exact ⟨rfl, rfl, State.not_passBegun (by simp [State.enterStopped]) (by simp [State.enterStopped])⟩
  · exact ⟨rfl, rfl, State.not_passBegun (by simp [hw]) (by simp [hw])⟩

/-- At the end of MEASURE the gathering epoch begins, and not the pass (R66, R67). -/
theorem State.testMeasure_leavesPass {s : State} (hw : s.seq.sweep = .measure) : s.LeavesPass s.testMeasure := by
  unfold State.testMeasure
  split
  · unfold State.endMeasure
    dsimp only
    split
    · exact ⟨rfl, rfl, State.not_passBegun (by simp [State.enterStopped]) (by simp [State.enterStopped])⟩
    · exact ⟨rfl, rfl, by simp [State.PassBegun, State.startQuietCall]⟩
  · exact ⟨rfl, rfl, State.not_passBegun (by simp [hw]) (by simp [hw])⟩

theorem State.allLost_leavesPass {s : State} (hw : s.seq.sweep = .settle ∨ s.seq.sweep = .measure) :
    s.LeavesPass s.allLost := by
  have habort : s.allLost = s.abortRunning .allLost := by
    unfold State.allLost
    rw [if_pos (by obtain hw | hw := hw <;> rw [hw] <;> rfl)]
    exact State.abortSweep_running _ hw
  rw [habort]
  exact ⟨rfl, rfl, State.not_passBegun (by simp [State.abortRunning, State.enterAborting])
    (by simp [State.abortRunning, State.enterAborting])⟩

-- ==== A marker of REDUCE (R67, R75) ====

section Marker

variable {s b : State} (hsweep : s.SweepOk) (h : s.CursorOk) (hb : s.Marked b) (hc : b.cursor = s.cursor)
  (hl : b.links = s.links)
include hb

/-- Nothing of the pass stands in the way of a marker. -/
theorem State.Marked.evaluation : b.seq.evaluation = s.seq.evaluation := by rw [hb.seq]

include hsweep

/-- After a marker of REDUCE the gathering epoch is past (R59). -/
theorem State.Marked.past_gathering (hw : s.seq.sweep = .reduce) :
    b.seq.reduceStart ≠ some b.seq.epoch ∧
      (s.seq.reduceStart ≠ some s.seq.epoch → b.seq.reduceStart.map (· + 1) ≠ some b.seq.epoch) := by
  have hp := hsweep.phase
  unfold State.Phase at hp
  rw [hw] at hp
  obtain ⟨-, -, a, m, -, -, -, -, -, -, hstart, -, -, hme, -⟩ := hp
  rw [hb.bounds.2.2.1, hb.epoch, hstart]
  constructor
  · intro he
    have := Option.some.inj he
    omega
  · intro hne he
    exact hne (congrArg some (Nat.succ.inj (Option.some.inj he)))

include h hc hl

/-- The pass starts at the marker after the gathering epoch, and goes on at every later one (R67, R140). -/
theorem State.Marked.testReduce_cursorOk (hw : s.seq.sweep = .reduce) : b.testReduce.CursorOk := by
  have hbw : b.seq.sweep = .reduce := hb.sweep.trans hw
  obtain ⟨hpast, hlater⟩ := hb.past_gathering hsweep hw
  by_cases hgather : s.seq.reduceStart = some s.seq.epoch
  · have hstage : s.cursor.stage = .notStarted := h.gathering hw hgather
    have hpending : b.cursor.pendingFinding = none := by
      rw [hc, ← Option.not_isSome_iff_eq_none]
      intro hsome
      have hworking := h.waiting hsome
      rw [hstage] at hworking
      exact absurd hworking (by decide)
    have hstart : b.seq.reduceStart.map (· + 1) = some b.seq.epoch := by
      rw [hb.bounds.2.2.1, hgather, hb.epoch]
      rfl
    have begun {t : State} (he : t.seq = { b.seq with evaluation := .running }) (ht : t.cursor.stage.working = true)
        (hp : t.cursor.pendingFinding = none)
        (hlinks : t.cursor.stage = .links → ∃ k l, t.cursor.position = some k ∧ k ≤ 511 ∧ t.links.get k = some l)
        (hun : t.cursor.stage = .unplanned → ∃ e, t.cursor.position = some e ∧ e ≤ 767) : t.CursorOk :=
      { follows := by
          rw [he]
          revert ht
          cases t.cursor.stage <;> simp [Stage.working, Stage.record]
        sweep := fun _ => .inl (by rw [he]; exact hbw)
        waiting := fun hs => by rw [hp] at hs; exact absurd hs (by decide)
        links := hlinks
        unplanned := hun
        idle := fun hi => by obtain hi | hi := hi <;> (rw [hi] at ht; exact absurd ht (by decide))
        early := fun hearly => by
          rw [he] at hearly
          exact absurd (hbw ▸ hearly : SweepState.early .reduce = true) (by decide)
        gathering := fun _ hg => by rw [he] at hg; exact absurd hg hpast
        begun := fun _ => by constructor <;> (intro hi; rw [hi] at ht; exact absurd ht (by decide)) }
    unfold State.testReduce
    rw [if_pos hstart]
    unfold State.startEvaluation
    dsimp only
    split
    · rename_i k hk
      obtain ⟨hlt, hused, -⟩ := Table.first_eq_some hk
      rw [Bool.and_eq_true, Option.isSome_iff_exists] at hused
      obtain ⟨-, l, hkl⟩ := hused
      exact begun rfl rfl hpending (fun _ => ⟨k, l, rfl, Nat.le_of_lt_succ hlt, hkl⟩) fun hu => absurd hu (by simp)
    · exact begun rfl rfl hpending (fun hlinks => absurd hlinks (by simp)) fun _ => ⟨0, rfl, by decide⟩
  · obtain ⟨hbegun, hstopped⟩ := h.begun (.inr ⟨hw, hgather⟩)
    unfold State.testReduce
    rw [if_neg (hlater hgather)]
    exact
      { follows := by rw [hb.evaluation, hc]; exact h.follows
        sweep := fun _ => .inl hbw
        waiting := by rw [hc]; exact h.waiting
        links := by rw [hc, hl]; exact h.links
        unplanned := by rw [hc]; exact h.unplanned
        idle := by rw [hc]; exact h.idle
        early := fun hearly => by rw [hbw] at hearly; exact absurd hearly (by decide)
        gathering := fun _ hg => absurd hg hpast
        begun := fun _ => by rw [hc]; exact ⟨hbegun, hstopped⟩ }

/-- A marker of REDUCE: the pass starts or goes on, and the sweep may halt (R67, R75). -/
theorem State.Marked.reduce_cursorOk (hw : s.seq.sweep = .reduce) : (b.testReduce.testDeadline .reduce).CursorOk := by
  have ht := hb.testReduce_cursorOk hsweep h hc hl hw
  obtain ⟨cursor, v, heq⟩ := b.testReduce_evaluation
  have hbegun : b.testReduce.cursor.stage ≠ .notStarted ∧ b.testReduce.cursor.stage ≠ .stopped := by
    refine ht.begun (.inr ?_)
    rw [heq]
    exact ⟨hb.sweep.trans hw, (hb.past_gathering hsweep hw).1⟩
  unfold State.testDeadline
  split
  · exact
      { follows := ht.follows
        sweep := fun _ => .inr rfl
        waiting := ht.waiting
        links := ht.links
        unplanned := ht.unplanned
        idle := ht.idle
        early := fun hearly => by simp [State.enterHalted, SweepState.early] at hearly
        gathering := fun hreduce => by simp [State.enterHalted] at hreduce
        begun := fun _ => hbegun }
  · exact ht

/-- The phase test of every state whose timer runs. -/
theorem State.Marked.phaseTest_cursorOk {p : Nat} (hrun : s.seq.timer = .running p) (fell : Bool) :
    (b.phaseTest fell).CursorOk := by
  have stands : s.seq.timer ≠ .running p → (b.phaseTest fell).CursorOk := fun hn => absurd hrun hn
  have early (hearly : s.seq.sweep.early = true) {t : State} (hleft : b.LeavesPass t) : t.CursorOk :=
    h.of_notStarted (h.early hearly) (hleft.cursor.trans hc) (hleft.evaluation.trans hb.evaluation) hleft.unbegun
  have hp := hsweep.phase
  unfold State.Phase at hp
  cases hw : s.seq.sweep with
  | arming =>
    rw [State.phaseTest_arming (hb.sweep.trans hw)]
    exact early (by rw [hw]; rfl) (State.testArming_leavesPass (hb.sweep.trans hw))
  | settle =>
    have htest : b.phaseTest fell = if fell then b.allLost else b.testSettle := by simp [State.phaseTest, hb.sweep, hw]
    rw [htest]
    split
    · exact early (by rw [hw]; rfl) (State.allLost_leavesPass (.inl (hb.sweep.trans hw)))
    · exact early (by rw [hw]; rfl) (State.testSettle_leavesPass (hb.sweep.trans hw))
  | measure =>
    have htest : b.phaseTest fell = if fell then b.allLost else b.testMeasure := by simp [State.phaseTest, hb.sweep, hw]
    rw [htest]
    split
    · exact early (by rw [hw]; rfl) (State.allLost_leavesPass (.inr (hb.sweep.trans hw)))
    · exact early (by rw [hw]; rfl) (State.testMeasure_leavesPass (hb.sweep.trans hw))
  | reduce =>
    rw [State.phaseTest_reduce (hb.sweep.trans hw)]
    exact hb.reduce_cursorOk hsweep h hc hl hw
  | aborting =>
    have hidle := h.not_working (.inl (by rw [hw]; decide))
    rw [State.phaseTest_aborting (hb.sweep.trans hw)]
    unfold State.testDeadline
    split
    · exact h.of_passOver hidle hc hb.evaluation rfl
    · exact h.of_passOver hidle hc hb.evaluation (by rw [hb.sweep, hw]; rfl)
  | idle => rw [hw] at hp; exact stands (by rw [show s.seq = {} from hp]; simp)
  | stopped resume => rw [hw] at hp; cases resume <;> exact stands (by rw [hp.1]; simp)
  | halted origin => rw [hw] at hp; cases origin <;> exact stands (by rw [hp.1]; simp)
  | done => rw [hw] at hp; exact stands (by rw [hp.1]; simp)
  | aborted => rw [hw] at hp; exact stands (by rw [hp.1]; simp)

end Marker

theorem State.CursorOk.expire {s : State} (h : s.CursorOk) (hsweep : s.SweepOk) (ht : ∃ p, s.seq.timer = .running p) :
    s.expire.CursorOk := by
  obtain ⟨p, hrun⟩ := ht
  unfold State.expire
  split
  · exact h.of_same rfl rfl rfl ⟨rfl, rfl⟩ fun _ => rfl
  · split
    · exact h.of_same rfl rfl rfl ⟨rfl, rfl⟩ fun _ => rfl
    · exact s.marked.phaseTest_cursorOk hsweep h (by simp) (by simp) hrun _

-- ==== Every step ====

/-- The sweep stands as chapter 4 describes it, and the cursor as R139 and R140 do. -/
def State.PassOk (s : State) : Prop := s.SweepOk ∧ s.CursorOk

theorem State.reset_sweepOk : State.reset.SweepOk :=
  .of_atRest rfl Timing.InRange.default rfl rfl

theorem step_passOk {s t : State} (h : step s = .next t) (hr : s.RosterOk) (hs : s.PassOk) : t.PassOk :=
  step_keeps_given (P := State.RosterOk) (Q := State.PassOk)
    (hp := fun _ _ _ _ hr => hr)
    (hq := fun _ _ _ _ hs => ⟨hs.1.of_keeps rfl rfl (.of_eq rfl), hs.2.of_same rfl rfl rfl ⟨rfl, rfl⟩ fun _ => rfl⟩)
    (hreset := ⟨State.reset_sweepOk, State.reset_cursorOk⟩)
    (hwork := fun _ _ _ hw hr hs => ⟨hw.sweepOk hr hs.2 hs.1, hw.cursorOk hs.1 hs.2⟩)
    (hexpire := fun _ _ hs ht => ⟨hs.1.expire ht, hs.2.expire hs.1 ht⟩)
    (hlink := fun _ k x _ hs hn => by
      obtain ⟨hw, hstage, hpending, -, -⟩ := nextLink_some hn
      exact ⟨hs.1.stepLink hw k x, hs.2.stepLink (by rw [hstage]; rfl) hpending k x⟩)
    (hun := fun _ rx _ hs hn => by
      obtain ⟨hw, hstage, hpending, -⟩ := nextUnplanned_some hn
      exact ⟨hs.1.stepUnplanned hw rx, hs.2.stepUnplanned (by rw [hstage]; rfl) hpending rx⟩)
    h hr hs

end Sys2Proof.Machine
end

section
/-!
The link that covers an endpoint (R15), the planned links that START sets from the plan (R105), and their agreement with the
plan while a sweep is on.
-/

namespace Sys2Proof.Machine

-- ==== The link that covers an endpoint (R15) ====

/-- The span of a link that begins at `first` on one side holds an endpoint. -/
def Link.spans (first : Link → Nat) (e : Nat) (p : Nat × Link) : Bool := first p.2 ≤ e && e < first p.2 + p.2.width

/-- The link covering an endpoint on the side whose spans begin at `first`, with its lane index. -/
def covering (first : Link → Nat) (plan : List (Nat × Link)) (e : Nat) : Option PlannedLane :=
  (plan.find? (Link.spans first e)).map fun p => { link := p.1, lane := e - first p.2 }

theorem coveringRx_eq (plan : List (Nat × Link)) (e : Nat) : coveringRx plan e = covering Link.rxStart plan e := rfl

theorem coveringTx_eq (plan : List (Nat × Link)) (e : Nat) : coveringTx plan e = covering Link.txStart plan e := rfl

theorem Link.spans_iff {first : Link → Nat} {e : Nat} {p : Nat × Link} :
    Link.spans first e p = true ↔ ∃ i, i < p.2.width ∧ first p.2 + i = e := by
  simp only [Link.spans, Bool.and_eq_true, decide_eq_true_eq]
  constructor
  · rintro ⟨hlow, hhigh⟩
    exact ⟨e - first p.2, by omega, by omega⟩
  · rintro ⟨i, hi, rfl⟩
    omega

/-- No endpoint lies in the spans of two links on the side whose spans begin at `first`. -/
def State.SpansApart (s : State) (first : Link → Nat) : Prop :=
  ∀ i j k l e, s.links.get i = some k → s.links.get j = some l → Link.spans first e (i, k) = true →
    Link.spans first e (j, l) = true → i = j

theorem State.PlanOk.rx_apart {s : State} (h : s.PlanOk) : s.SpansApart Link.rxStart := by
  intro i j k l e hk hl hek hel
  by_contra hne
  exact (h.exclusive i j k l hne hk hl e).1 ⟨hek, hel⟩

theorem State.PlanOk.tx_apart {s : State} (h : s.PlanOk) : s.SpansApart Link.txStart := by
  intro i j k l e hk hl hek hel
  by_contra hne
  exact (h.exclusive i j k l hne hk hl e).2 ⟨hek, hel⟩

/-- Where the spans are apart, the covering link and its lane index are the ones whose span holds the endpoint. -/
theorem State.SpansApart.covering_eq_some {s : State} {first : Link → Nat} (h : s.SpansApart first) {e k i : Nat} :
    covering first s.usedLinks e = some { link := k, lane := i } ↔
      ∃ l, s.links.get k = some l ∧ i < l.width ∧ first l + i = e := by
  unfold covering
  constructor
  · intro hc
    obtain ⟨⟨j, l⟩, hfind, heq⟩ := Option.map_eq_some_iff.1 hc
    obtain ⟨rfl, rfl⟩ : j = k ∧ e - first l = i := by simpa using heq
    obtain ⟨x, hx, hxe⟩ := Link.spans_iff.1 (List.find?_some hfind)
    exact ⟨l, usedLinks_mem.1 (List.mem_of_find?_eq_some hfind), by dsimp only at hx hxe; omega, by
      dsimp only at hxe
      omega⟩
  · rintro ⟨l, hl, hi, hie⟩
    have hspan : Link.spans first e (k, l) = true := Link.spans_iff.2 ⟨i, hi, hie⟩
    rw [State.find_usedLinks_eq_some hl hspan fun j y hy hjy => (h k j l y e hl hy hspan hjy).le]
    simp only [Option.map_some, Option.some.injEq, PlannedLane.mk.injEq, true_and]
    omega

-- ==== What START sets (R105) ====

theorem plannedObservations_get (plan : List (Nat × Link)) {e : Nat} (he : e < 768) :
    (plannedObservations plan).get e = { planned := coveringRx plan e } := by
  rw [plannedObservations, Table.get_mapIdx _ _ he, observations_empty]

/-- Settles O33: where spans are apart, the search finds the one link whose span holds the endpoint. -/
theorem plannedLinksAreTheCover : Obligations.PlannedLinksAreTheCover := by
  intro s h e k i
  refine ⟨fun he => ⟨coveringRx s.usedLinks e, plannedObservations_get _ he, ?_⟩, ?_⟩
  · rw [coveringRx_eq]
    exact h.rx_apart.covering_eq_some
  · rw [coveringTx_eq]
    exact h.tx_apart.covering_eq_some

-- ==== The planned links while a sweep is on (R105) ====

/-- A sweep that is on in `t` was on in `s`, and has kept its plan and its planned links. -/
def State.KeepsPlanned (s t : State) : Prop :=
  t.seq.sweep.atRest = false → s.seq.sweep.atRest = false ∧ t.links = s.links ∧
    ∀ e, (t.observations.get e).planned = (s.observations.get e).planned

theorem State.KeepsPlanned.plannedOk {s t : State} (h : s.KeepsPlanned t) (hs : s.PlannedOk) : t.PlannedOk := by
  intro ht e k i he
  obtain ⟨hrest, hlinks, hplanned⟩ := h ht
  rw [hplanned, hlinks]
  exact hs hrest e k i he

/-- What follows a state within the limits starts no sweep. -/
theorem State.LimitsFollow.keepsPlanned {s t : State} (h : s.LimitsFollow t) (hl : t.links = s.links)
    (hp : ∀ e, (t.observations.get e).planned = (s.observations.get e).planned) : s.KeepsPlanned t := by
  intro ht
  refine ⟨?_, hl, hp⟩
  obtain hw | hw := h.sweep
  · rw [← hw]
    exact ht
  · exact hw

/-- START alone begins a sweep. -/
theorem LimitsWork.begins {s t : State} (h : LimitsWork s t) :
    t = s.startSweep ∨ (t.seq.sweep.atRest = false → s.seq.sweep.atRest = false) := by
  cases h with
  | started h => exact .inl h
  | follows _ _ h =>
    obtain hw | hw := h.sweep
    · exact .inr fun ht => hw ▸ ht
    · exact .inr fun _ => hw
  | timed _ f h => exact .inr fun ht => by rwa [h] at ht
  | granted slot granted _ _ h => exact .inr fun ht => by rwa [h] at ht
  | emptied h => exact .inr fun ht => by rw [h] at ht; exact absurd ht Bool.noConfusion

theorem State.startSweep_plannedOk {s : State} (h : s.PlanOk) : s.startSweep.PlannedOk := by
  intro _ e k i he
  rw [State.startSweep_observations, State.startSweep_links, plannedObservations_get _ he, coveringRx_eq]
  exact h.rx_apart.covering_eq_some

/-- A request other than START leaves the plan and the planned links of a sweep that is on. -/
theorem BlockWork.plannedOk {src : SourceId} {s t : State} (h : BlockWork src s t) (hplan : s.PlanOk) (hs : s.PlannedOk) :
    t.PlannedOk := by
  obtain rfl | hbegins := h.limitsWork.begins
  · exact State.startSweep_plannedOk hplan
  have atRest (hw : s.seq.sweep.atRest = true) : t.PlannedOk := State.KeepsPlanned.plannedOk (s := s)
    (fun ht => absurd (hw.symm.trans (hbegins ht)) (by decide)) hs
  have kept (hl : t.links = s.links) (hp : ∀ e, (t.observations.get e).planned = (s.observations.get e).planned) :
      t.PlannedOk := State.KeepsPlanned.plannedOk (fun ht => ⟨hbegins ht, hl, hp⟩) hs
  cases h with
  | start hw => exact atRest hw
  | storeLink f k hw => exact atRest hw
  | removeLink id hw => exact atRest hw
  | emptyPlan hw => exact atRest hw
  | campaignReset hw => exact atRest hw
  | _ => exact kept (by simp) fun _ => by simp

/-- A timer expiry leaves every planned link. -/
theorem State.expire_planned (s : State) (e : Nat) :
    (s.expire.observations.get e).planned = (s.observations.get e).planned := by
  unfold State.expire
  split
  · rfl
  · split
    · rfl
    · simp [State.marker]

theorem step_plannedOk {s t : State} (h : step s = .next t) (hplan : s.PlanOk) (hs : s.PlannedOk) : t.PlannedOk :=
  step_keeps_given (P := State.PlanOk) (Q := State.PlannedOk)
    (hp := fun _ _ _ _ h => h.of_links rfl)
    (hq := fun _ _ _ _ hs => hs)
    (hreset := fun h => absurd h (by decide))
    (hwork := fun _ _ _ hw hplan hs => hw.plannedOk hplan hs)
    (hexpire := fun s _ hs _ => (s.expire_limits.keepsPlanned (by simp) s.expire_planned).plannedOk hs)
    (hlink := fun s k x _ hs _ => ((s.stepLink_limits k x).keepsPlanned (by simp) fun _ => by simp).plannedOk hs)
    (hun := fun s rx _ hs _ => ((s.stepUnplanned_limits rx).keepsPlanned (by simp) fun _ => by simp).plannedOk hs)
    h hplan hs

end Sys2Proof.Machine
end

section
/-!
The sequence numbers of a sweep (R164): the pass counts at most one finding for each link and each unplanned receive endpoint
that it has left, and there are at most 768 of both.
-/

namespace Sys2Proof.Machine

-- ==== What the count depends on ====

/-- The count stands where the cursor, the next number, the plan and the planned links do. -/
theorem State.NumbersOk.of_same {s t : State} (h : s.NumbersOk) (hc : t.cursor = s.cursor) (hn : t.nextSeq = s.nextSeq)
    (hl : s.cursor.stage.working = true → t.links = s.links ∧
      ∀ e, (t.observations.get e).planned = (s.observations.get e).planned) : t.NumbersOk := by
  unfold State.NumbersOk at h ⊢
  rw [hc, hn]
  cases hs : s.cursor.stage with
  | notStarted => rw [hs] at h; exact h
  | complete => rw [hs] at h; exact h
  | stopped => rw [hs] at h; exact h
  | links =>
    rw [hs] at h
    obtain ⟨hlinks, -⟩ := hl (by rw [hs]; rfl)
    simp only [State.linksBelow, hlinks]
    exact h
  | unplanned =>
    rw [hs] at h
    obtain ⟨hlinks, hplanned⟩ := hl (by rw [hs]; rfl)
    simp only [State.linksBelow, State.unplannedBelow, hlinks, hplanned]
    exact h

/-- The next sequence number does not pass 768 (R164). -/
theorem State.NumbersOk.le {s : State} (h : s.NumbersOk) : s.nextSeq ≤ 768 := by
  unfold State.NumbersOk at h
  cases hs : s.cursor.stage with
  | notStarted => rw [hs] at h; rw [show s.nextSeq = 0 from h]; decide
  | complete => rw [hs] at h; exact h
  | stopped => rw [hs] at h; exact h
  | links => rw [hs] at h; obtain ⟨-, -, -, hle⟩ := h; exact hle
  | unplanned => rw [hs] at h; obtain ⟨-, -, -, hle, -⟩ := h; exact hle

theorem State.NumbersOk.of_stopped {t : State} (hs : t.cursor.stage = .stopped) (hn : t.nextSeq ≤ 768) : t.NumbersOk := by
  unfold State.NumbersOk
  rw [hs]
  exact hn

theorem State.NumbersOk.of_complete {t : State} (hs : t.cursor.stage = .complete) (hn : t.nextSeq ≤ 768) : t.NumbersOk := by
  unfold State.NumbersOk
  rw [hs]
  exact hn

theorem State.NumbersOk.of_notStarted {t : State} (hs : t.cursor.stage = .notStarted) (hn : t.nextSeq = 0) :
    t.NumbersOk := by
  unfold State.NumbersOk
  rw [hs]
  exact hn

theorem State.numbersOk_links {t : State} {k : Nat} (hs : t.cursor.stage = .links) (hp : t.cursor.position = some k) :
    t.NumbersOk ↔ t.nextSeq ≤ t.linksBelow k ∧ t.nextSeq ≤ 768 := by
  unfold State.NumbersOk
  rw [hs, hp]
  simp

theorem State.numbersOk_unplanned {t : State} {e : Nat} (hs : t.cursor.stage = .unplanned)
    (hp : t.cursor.position = some e) :
    t.NumbersOk ↔ t.nextSeq ≤ t.linksBelow 512 + t.unplannedBelow e ∧ t.nextSeq ≤ 768 ∧
      (t.cursor.pendingFinding.isSome = true → (t.observations.get e).planned = none) := by
  unfold State.NumbersOk
  rw [hs, hp]
  simp

-- ==== The steps of the pass ====

/-- The links and the unplanned receive endpoints number at most 768. -/
def State.Roomy (s : State) : Prop := s.linksBelow 512 + s.unplannedBelow 768 ≤ 768

/-- The position may move on: the next number counts at most what the pass has left with the position it stands at, and
nothing waits. -/
structure State.MayAdvance (s : State) : Prop where
  working   : s.cursor.stage.working = true
  free      : s.cursor.pendingFinding = none
  room      : s.Roomy
  links     : s.cursor.stage = .links → ∃ k, s.cursor.position = some k ∧ k ≤ 511 ∧ s.nextSeq ≤ s.linksBelow (k + 1)
  unplanned : s.cursor.stage = .unplanned → ∃ e, s.cursor.position = some e ∧ e ≤ 767 ∧
    s.nextSeq ≤ s.linksBelow 512 + s.unplannedBelow (e + 1)

theorem State.finishPass_stage (s : State) : s.finishPass.cursor.stage = .complete := by
  unfold State.finishPass
  dsimp only
  split <;> rfl

/-- Leaving a position, the pass counts what it found there (R140, R164). -/
theorem State.MayAdvance.advance {s : State} (h : s.MayAdvance) : s.advance.NumbersOk := by
  have hroom : s.linksBelow 512 + s.unplannedBelow 768 ≤ 768 := h.room
  unfold State.advance
  split
  · rename_i k hstage hpos
    obtain ⟨j, hj, hk, hn⟩ := h.links hstage
    obtain rfl : k = j := Option.some.inj (hpos.symm.trans hj)
    split
    · rename_i i hi
      obtain ⟨hlt, hused, -⟩ := Table.first_eq_some hi
      rw [Bool.and_eq_true, decide_eq_true_eq] at hused
      have hpassed := s.linksBelow_mono hused.1
      have hall : s.linksBelow i ≤ s.linksBelow 512 := s.linksBelow_mono (Nat.le_of_lt hlt)
      have hle : s.nextSeq ≤ 768 := by omega
      exact (State.numbersOk_links (t := { s with cursor := { s.cursor with position := some i } }) hstage rfl).2
        ⟨hn.trans hpassed, hle⟩
    · have hall : s.linksBelow (k + 1) ≤ s.linksBelow 512 := s.linksBelow_mono (Nat.succ_le_succ hk)
      refine (State.numbersOk_unplanned
        (t := { s with cursor := { s.cursor with stage := .unplanned, position := some 0 } }) rfl rfl).2 ⟨?_, ?_, ?_⟩
      · exact (hn.trans hall).trans (Nat.le_add_right _ _)
      · show s.nextSeq ≤ 768
        omega
      · rw [show State.cursor _ = _ from rfl]
        intro hp
        exact absurd (h.free ▸ hp : (none : Option Finding).isSome = true) (by decide)
  · rename_i e hstage hpos
    obtain ⟨j, hj, he, hn⟩ := h.unplanned hstage
    obtain rfl : e = j := Option.some.inj (hpos.symm.trans hj)
    have hall : s.unplannedBelow (e + 1) ≤ s.unplannedBelow 768 := s.unplannedBelow_mono (Nat.succ_le_succ he)
    split
    · refine (State.numbersOk_unplanned (t := { s with cursor := { s.cursor with position := some (e + 1) } }) hstage
        rfl).2 ⟨hn, ?_, ?_⟩
      · show s.nextSeq ≤ 768
        omega
      · intro hp
        exact absurd (h.free ▸ hp : (none : Option Finding).isSome = true) (by decide)
    · refine .of_complete s.finishPass_stage ?_
      rw [State.finishPass_nextSeq]
      omega
  · rename_i hlinks hunplanned
    have hworking := h.working
    cases hs : s.cursor.stage with
    | links =>
      obtain ⟨k, hk, -⟩ := h.links hs
      exact absurd hk (hlinks k hs)
    | unplanned =>
      obtain ⟨e, he, -⟩ := h.unplanned hs
      exact absurd he (hunplanned e hs)
    | _ => rw [hs] at hworking; exact absurd hworking (by decide)

/-- The pass stands at a link or an unplanned endpoint, so that a finding there is counted when the position moves on. -/
structure State.MayFind (s : State) : Prop where
  numbers   : s.NumbersOk
  room      : s.Roomy
  working   : s.cursor.stage.working = true
  links     : s.cursor.stage = .links → ∃ k l, s.cursor.position = some k ∧ k ≤ 511 ∧ s.links.get k = some l
  unplanned : s.cursor.stage = .unplanned → ∃ e, s.cursor.position = some e ∧ e ≤ 767 ∧
    (s.observations.get e).planned = none

/-- A finding pushed at the position leaves the count right for the next one. -/
theorem State.MayFind.pushFinding {s : State} (h : s.MayFind) (hp : s.cursor.pendingFinding = none) (f : Finding) :
    (s.pushFinding f).MayAdvance where
  working := h.working
  free := hp
  room := h.room
  links hs := by
    obtain ⟨k, l, hpos, hk, hl⟩ := h.links hs
    obtain ⟨hn, -⟩ := (State.numbersOk_links (t := s) hs hpos).1 h.numbers
    refine ⟨k, hpos, hk, ?_⟩
    have hstep := s.linksBelow_succ k
    rw [hl, Option.isSome_some, if_pos rfl] at hstep
    show s.nextSeq + 1 ≤ s.linksBelow (k + 1)
    omega
  unplanned hs := by
    obtain ⟨e, hpos, he, hfree⟩ := h.unplanned hs
    obtain ⟨hn, -, -⟩ := (State.numbersOk_unplanned (t := s) hs hpos).1 h.numbers
    refine ⟨e, hpos, he, ?_⟩
    have hstep := s.unplannedBelow_succ e
    rw [hfree, Option.isNone_none, if_pos rfl] at hstep
    show s.nextSeq + 1 ≤ s.linksBelow 512 + s.unplannedBelow (e + 1)
    omega

/-- A position without a finding leaves the count. -/
theorem State.NumbersOk.mayAdvance {s : State} (h : s.NumbersOk) (hroom : s.Roomy) (hc : s.CursorOk)
    (hw : s.cursor.stage.working = true) (hp : s.cursor.pendingFinding = none) : s.MayAdvance where
  working := hw
  free := hp
  room := hroom
  links hs := by
    obtain ⟨k, -, hpos, hk, -⟩ := hc.links hs
    exact ⟨k, hpos, hk, ((State.numbersOk_links (t := s) hs hpos).1 h).1.trans (s.linksBelow_mono (Nat.le_succ k))⟩
  unplanned hs := by
    obtain ⟨e, hpos, he⟩ := hc.unplanned hs
    exact ⟨e, hpos, he, ((State.numbersOk_unplanned (t := s) hs hpos).1 h).1.trans
      (Nat.add_le_add_left (s.unplannedBelow_mono (Nat.le_succ e)) _)⟩

/-- A finding offered is counted, or waits at its position (R156). -/
theorem State.MayFind.offer {s : State} (h : s.MayFind) (hp : s.cursor.pendingFinding = none) (f : Finding) :
    (s.offer f).NumbersOk := by
  unfold State.offer
  split
  · exact (h.pushFinding hp f).advance
  · have hworking := h.working
    cases hs : s.cursor.stage with
    | links =>
      obtain ⟨k, -, hpos, -⟩ := h.links hs
      exact (State.numbersOk_links (t := { s with cursor := { s.cursor with pendingFinding := some f } }) hs hpos).2
        ((State.numbersOk_links (t := s) hs hpos).1 h.numbers)
    | unplanned =>
      obtain ⟨e, hpos, -, hfree⟩ := h.unplanned hs
      obtain ⟨hn, hle, -⟩ := (State.numbersOk_unplanned (t := s) hs hpos).1 h.numbers
      exact (State.numbersOk_unplanned (t := { s with cursor := { s.cursor with pendingFinding := some f } }) hs hpos).2
        ⟨hn, hle, fun _ => hfree⟩
    | _ => rw [hs] at hworking; exact absurd hworking (by decide)

/-- The part with its waiting finding in hand and the findings `rest` in the queue (R167). -/
def State.inHand (s : State) (rest : List QueuedFinding) : State :=
  { s with findings := rest, cursor := { s.cursor with pendingFinding := none } }

theorem State.pushPending_eq (s : State) (f : Finding) (rest : List QueuedFinding) :
    State.pushPending f { s with findings := rest } = ((s.inHand rest).pushFinding f).advance := rfl

section Pass

variable {s : State} (h : s.NumbersOk) (hroom : s.Roomy) (hc : s.CursorOk)
include h hroom hc

theorem State.NumbersOk.stepLink (hs : s.cursor.stage = .links) (hp : s.cursor.pendingFinding = none) (id : Nat) (l : Link) :
    (s.stepLink id l).NumbersOk := by
  have hworking : s.cursor.stage.working = true := by rw [hs]; rfl
  have hwritten : (s.writeVerdict id (s.evaluate l)).MayFind :=
    { numbers := h, room := hroom, working := hworking, links := hc.links
      unplanned := fun hu => absurd (hs.symm.trans hu) (by decide) }
  have hwell : (s.writeVerdict id (s.evaluate l)).CursorOk := hc.of_same rfl rfl rfl ⟨rfl, rfl⟩ fun _ => rfl
  unfold State.stepLink
  dsimp only
  split
  · exact (hwritten.numbers.mayAdvance hwritten.room hwell hworking hp).advance
  · exact hwritten.offer hp _

theorem State.NumbersOk.stepUnplanned {rx : Nat} (hs : s.cursor.stage = .unplanned) (hpos : s.cursor.position = some rx)
    (hp : s.cursor.pendingFinding = none) : (s.stepUnplanned rx).NumbersOk := by
  have hworking : s.cursor.stage.working = true := by rw [hs]; rfl
  unfold State.stepUnplanned
  dsimp only
  split
  · rename_i hfound
    obtain ⟨e, he, hle⟩ := hc.unplanned hs
    obtain rfl : rx = e := Option.some.inj (hpos.symm.trans he)
    have hfind : s.MayFind :=
      { numbers := h, room := hroom, working := hworking
        links := fun hl => absurd (hs.symm.trans hl) (by decide)
        unplanned := fun _ => ⟨rx, hpos, hle, Option.isNone_iff_eq_none.1 hfound.1⟩ }
    exact hfind.offer hp _
  · exact (h.mayAdvance hroom hc hworking hp).advance

/-- The finding that waits is counted when the queue takes it (R167). -/
theorem State.NumbersOk.pushPending {f : Finding} (hf : s.cursor.pendingFinding = some f) (rest : List QueuedFinding) :
    (State.pushPending f { s with findings := rest }).NumbersOk := by
  have hworking : s.cursor.stage.working = true := hc.waiting (by rw [hf]; rfl)
  have hfind : (s.inHand rest).MayFind :=
    { numbers := by
        cases hs : s.cursor.stage with
        | links =>
          obtain ⟨k, -, hpos, -⟩ := hc.links hs
          exact (State.numbersOk_links (t := s.inHand rest) hs hpos).2 ((State.numbersOk_links (t := s) hs hpos).1 h)
        | unplanned =>
          obtain ⟨e, hpos, -⟩ := hc.unplanned hs
          obtain ⟨hn, hle, -⟩ := (State.numbersOk_unplanned (t := s) hs hpos).1 h
          exact (State.numbersOk_unplanned (t := s.inHand rest) hs hpos).2 ⟨hn, hle, fun hp => absurd hp Bool.noConfusion⟩
        | _ => rw [hs] at hworking; exact absurd hworking (by decide)
      room := hroom
      working := hworking
      links := hc.links
      unplanned := fun hs => by
        obtain ⟨e, hpos, he⟩ := hc.unplanned hs
        obtain ⟨-, -, hfree⟩ := (State.numbersOk_unplanned (t := s) hs hpos).1 h
        exact ⟨e, hpos, he, hfree (by rw [hf]; rfl)⟩ }
  rw [State.pushPending_eq]
  exact (hfind.pushFinding rfl f).advance

end Pass

-- ==== The requests and the markers ====

/-- Outside the steps of the pass the cursor stays, stops, or starts where it has not, and nothing is numbered. -/
inductive State.CursorFollows (s t : State) : Prop
  | same (h : t.cursor = s.cursor)
  | stopped (h : t.cursor.stage = .stopped)
  | links (hs : s.cursor.stage = .notStarted) (k : Nat) (h : t.cursor = { s.cursor with stage := .links, position := some k })
  | unplanned (hs : s.cursor.stage = .notStarted)
      (h : t.cursor = { s.cursor with stage := .unplanned, position := some 0 })

theorem State.CursorFollows.numbersOk {s t : State} (h : s.CursorFollows t) (hs : s.NumbersOk) (hc : s.CursorOk)
    (hn : t.nextSeq = s.nextSeq) (hl : s.cursor.stage.working = true → t.links = s.links ∧
      ∀ e, (t.observations.get e).planned = (s.observations.get e).planned) : t.NumbersOk := by
  have zero (hstage : s.cursor.stage = .notStarted) : t.nextSeq = 0 := by
    unfold State.NumbersOk at hs
    rw [hstage] at hs
    exact hn.trans hs
  cases h with
  | same h => exact hs.of_same h hn hl
  | stopped h => exact .of_stopped h (hn ▸ hs.le)
  | links hstage k h =>
    rw [State.numbersOk_links (k := k) (by rw [h]) (by rw [h]), zero hstage]
    exact ⟨Nat.zero_le _, Nat.zero_le _⟩
  | unplanned hstage h =>
    rw [State.numbersOk_unplanned (e := 0) (by rw [h]) (by rw [h]), zero hstage, h]
    refine ⟨Nat.zero_le _, Nat.zero_le _, fun hp => ?_⟩
    have hworking := hc.waiting hp
    rw [hstage] at hworking
    exact absurd hworking (by decide)

theorem State.abortReduce_cursor (s : State) (c : AbortCause) : (s.abortReduce c).cursor = (s.setCause c).stopPass.cursor := by
  unfold State.abortReduce
  dsimp only
  split <;> rfl

theorem State.abortSweep_cursorFollows (c : AbortCause) (s : State) : s.CursorFollows (s.abortSweep c) := by
  unfold State.abortSweep
  cases s.seq.sweep with
  | reduce =>
    have hcursor := s.abortReduce_cursor c
    obtain ⟨-, hstop⟩ | hstop := (s.setCause c).stopPass_cases
    · exact .same (by rw [hcursor, hstop]; rfl)
    · exact .stopped (by rw [hcursor, hstop])
  | stopped resume =>
    cases resume with
    | settle => exact .same rfl
    | measure => exact .same (s.abortStopped_cursor c)
    | reduce => exact .same (s.abortStopped_cursor c)
  | _ => exact .same rfl

theorem State.allLost_cursorFollows (s : State) : s.CursorFollows s.allLost := by
  unfold State.allLost
  split
  · exact s.abortSweep_cursorFollows .allLost
  · exact .same rfl

theorem State.activeFell_cursorFollows (s : State) : s.CursorFollows s.activeFell := by
  unfold State.activeFell
  split
  · exact s.allLost_cursorFollows
  · exact .same rfl

/-- The phase test starts a pass that has not started, at the marker after the gathering epoch (R67). -/
theorem State.phaseTest_cursorFollows {s : State} (fell : Bool)
    (hstart : s.seq.sweep = .reduce → s.seq.reduceStart.map (· + 1) = some s.seq.epoch → s.cursor.stage = .notStarted) :
    s.CursorFollows (s.phaseTest fell) := by
  unfold State.phaseTest
  cases hw : s.seq.sweep with
  | arming => exact .same (State.testArming_leavesPass hw).cursor
  | settle =>
    dsimp only
    split
    · exact s.allLost_cursorFollows
    · exact .same (State.testSettle_leavesPass hw).cursor
  | measure =>
    dsimp only
    split
    · exact s.allLost_cursorFollows
    · exact .same (State.testMeasure_leavesPass hw).cursor
  | reduce =>
    have hcursor := s.testReduce.testDeadline_cursor .reduce
    dsimp only
    by_cases hnow : s.seq.reduceStart.map (· + 1) = some s.seq.epoch
    · have htest : s.testReduce = s.startEvaluation := if_pos hnow
      unfold State.startEvaluation at htest
      dsimp only at htest
      split at htest
      · rename_i k _
        exact .links (hstart hw hnow) k (by rw [hcursor, htest])
      · exact .unplanned (hstart hw hnow) (by rw [hcursor, htest])
    · exact .same (by rw [hcursor, State.testReduce, if_neg hnow])
  | aborting => exact .same (s.testDeadline_cursor .aborting)
  | _ => exact .same rfl

theorem State.CursorOk.expire_cursorFollows {s : State} (h : s.CursorOk) : s.CursorFollows s.expire := by
  unfold State.expire
  split
  · exact .same rfl
  · split
    · exact .same rfl
    · have hcursor : s.pulse.bookkeep.emptyWindows.cursor = s.cursor := by simp
      have hmarker : s.pulse.bookkeep.emptyWindows.CursorFollows s.marker := State.phaseTest_cursorFollows _ <| by
        simp only [State.emptyWindows_seq, State.bookkeep_seq, hcursor, State.pulse_seq]
        intro hw hstart
        refine h.gathering hw ?_
        obtain ⟨r, hr, hre⟩ := Option.map_eq_some_iff.1 hstart
        rw [hr, Nat.succ.inj hre]
      cases hmarker with
      | same ht => exact .same (ht.trans hcursor)
      | stopped ht => exact .stopped ht
      | links hs k ht => exact .links (hcursor ▸ hs) k (hcursor ▸ ht)
      | unplanned hs ht => exact .unplanned (hcursor ▸ hs) (hcursor ▸ ht)

theorem BlockWork.numbersOk {src : SourceId} {s t : State} (h : BlockWork src s t) (hs : s.NumbersOk) (hc : s.CursorOk)
    (hroom : s.cursor.stage.working = true → s.Roomy) : t.NumbersOk := by
  have kept (hcursor : t.cursor = s.cursor) (hn : t.nextSeq = s.nextSeq) (hl : t.links = s.links)
      (hp : ∀ e, (t.observations.get e).planned = (s.observations.get e).planned) : t.NumbersOk :=
    hs.of_same hcursor hn fun _ => ⟨hl, hp⟩
  have atRest (hw : s.seq.sweep.atRest = true) (hcursor : t.cursor = s.cursor) (hn : t.nextSeq = s.nextSeq) :
      t.NumbersOk := by
    refine hs.of_same hcursor hn fun hworking => ?_
    obtain hreduce | hhalted := hc.sweep hworking
    · exact absurd (hreduce ▸ hw) (by decide)
    · exact absurd (hhalted ▸ hw) (by decide)
  have fell (slot : Nat) (r : SlotRecord) : (s.setSlot slot r).activeFell.NumbersOk :=
    (s.setSlot slot r).activeFell_cursorFollows.numbersOk (hs.of_same rfl rfl fun _ => ⟨rfl, fun _ => rfl⟩)
      (hc.of_same rfl rfl rfl ⟨rfl, rfl⟩ fun _ => rfl) (by simp) fun _ => ⟨by simp, fun _ => by simp⟩
  cases h with
  | storeLink f k hw => exact atRest hw rfl rfl
  | removeLink id hw => exact atRest hw rfl rfl
  | emptyPlan hw => exact atRest hw rfl rfl
  | start => exact .of_notStarted rfl rfl
  | campaignReset => exact .of_notStarted rfl rfl
  | restartActive slot => exact fell slot _
  | contestActive slot => exact fell slot _
  | abort =>
    exact (s.abortSweep_cursorFollows .station).numbersOk hs hc (by simp) fun _ => ⟨by simp, fun _ => by simp⟩
  | releaseAndPush head rest f _ hf => exact hs.pushPending (hroom (hc.waiting (by rw [hf]; rfl))) hc hf rest
  | _ => exact kept (by simp) (by simp) (by simp) fun _ => by simp

-- ==== Every step ====

/-- What the count of a step rests on: the laws of the plan, of the pass and of the planned links (R14, R105, R139, R140). -/
structure State.CountingOk (s : State) : Prop where
  plan    : s.PlanOk
  cursor  : s.CursorOk
  planned : s.PlannedOk

/-- While the pass is working a sweep is on, and there is room for its numbers. -/
theorem State.CountingOk.roomy {s : State} (h : s.CountingOk) (hw : s.cursor.stage.working = true) : s.Roomy :=
  h.plan.room h.planned (by obtain hs | hs := h.cursor.sweep hw <;> rw [hs] <;> rfl)

theorem step_numbersOk {s t : State} (h : step s = .next t) (hcount : s.CountingOk) (hs : s.NumbersOk) : t.NumbersOk :=
  step_keeps_given (P := State.CountingOk) (Q := State.NumbersOk)
    (hp := fun _ _ _ _ h => ⟨h.plan.of_links rfl, h.cursor.of_same rfl rfl rfl ⟨rfl, rfl⟩ fun _ => rfl, h.planned⟩)
    (hq := fun _ _ _ _ hs => hs)
    (hreset := .of_notStarted rfl rfl)
    (hwork := fun _ _ _ hw hcount hs => hw.numbersOk hs hcount.cursor hcount.roomy)
    (hexpire := fun s hcount hs _ => hcount.cursor.expire_cursorFollows.numbersOk hs hcount.cursor (by simp) fun _ =>
      ⟨by simp, s.expire_planned⟩)
    (hlink := fun s k x hcount hs hn => by
      obtain ⟨-, hstage, hpending, -, -⟩ := nextLink_some hn
      exact hs.stepLink (hcount.roomy (by rw [hstage]; rfl)) hcount.cursor hstage hpending k x)
    (hun := fun s rx hcount hs hn => by
      obtain ⟨-, hstage, hpending, hpos⟩ := nextUnplanned_some hn
      exact hs.stepUnplanned (hcount.roomy (by rw [hstage]; rfl)) hcount.cursor hstage hpos hpending)
    h hcount hs

/-- Settles O56: the sweep and its cursor are kept together, the planned links change only at START, and the pass counts a
finding only where it leaves a link or an unplanned endpoint. -/
theorem sweepAndCursorStay : Obligations.SweepAndCursorStay := by
  intro s t h hroster hsweep hcursor
  obtain ⟨htsweep, htcursor⟩ := step_passOk h hroster ⟨hsweep, hcursor⟩
  exact ⟨htsweep, htcursor, fun hplan hplanned =>
    ⟨step_plannedOk h hplan hplanned, step_numbersOk h ⟨hplan, hcursor, hplanned⟩⟩⟩

end Sys2Proof.Machine
end

section
/-!
The queue of commands and the two resets (R86, R174; log 1, log 3): what a step takes, that every command has a next state,
what device reset sets, and that the laws hold after it.
-/

namespace Sys2Proof.Machine

/-- Settles O1: a step takes the front command, and without one it changes nothing. -/
theorem stepTakesTheFrontCommand : Obligations.StepTakesTheFrontCommand := by
  refine ⟨fun c q s => rfl, fun s h => ?_⟩
  unfold step
  rw [h]

-- ==== Every command has a next state and leaves the queue ====

theorem exec_next (c : Instr) (s : State) : ∃ t, exec c s = .next t := by
  cases c with
  | transactionStart => simp only [exec, execTransactionStart]; split <;> exact ⟨_, rfl⟩
  | repeatedStart => simp only [exec, execRepeatedStart]; split <;> exact ⟨_, rfl⟩
  | stop => simp only [exec, execStop]; split <;> exact ⟨_, rfl⟩
  | resetnRelease a1 a0 => simp only [exec, execResetnRelease]; split <;> exact ⟨_, rfl⟩
  | epochTimerExpiry => simp only [exec, execEpochTimerExpiry]; split <;> exact ⟨_, rfl⟩
  | linkEvaluationStep => simp only [exec, execLinkEvaluationStep]; split <;> exact ⟨_, rfl⟩
  | unplannedScanStep => simp only [exec, execUnplannedScanStep]; split <;> exact ⟨_, rfl⟩
  | addressByte b p =>
    simp only [exec, execAddressByte]
    split
    · split <;> exact ⟨_, rfl⟩
    · exact ⟨_, rfl⟩
  | replyByte m =>
    simp only [exec, execReplyByte]
    split
    · split <;> exact ⟨_, rfl⟩
    all_goals exact ⟨_, rfl⟩
  | _ => exact ⟨_, rfl⟩

/-- No block touches the queue of commands. -/
theorem BlockWork.pending {src : SourceId} {s t : State} (h : BlockWork src s t) : t.pending = s.pending := by
  cases h <;> simp

theorem exec_pending {c : Instr} {s t : State} (h : exec c s = .next t) : t.pending = s.pending := by
  cases exec_cases h with
  | none h =>
    obtain ⟨p, l, rfl⟩ := h
    rfl
  | body src b hb h =>
    obtain ⟨p, l, s', ⟨p', l', rfl⟩, rfl⟩ := h
    exact (body_work hb _).pending
  | reset h =>
    obtain ⟨p, l, rfl⟩ := h
    rfl
  | expire period ht h =>
    obtain ⟨l, rfl⟩ := h
    simp
  | link k x hn h =>
    obtain ⟨l, rfl⟩ := h
    simp
  | unplanned rx hn h =>
    obtain ⟨l, rfl⟩ := h
    simp

/-- Settles O2: no command stops the part, and the blocks never see the queue. -/
theorem everyCommandGivesANextState : Obligations.EveryCommandGivesANextState := by
  intro c s
  obtain ⟨t, h⟩ := exec_next c s
  exact ⟨t, h, exec_pending h⟩

-- ==== The resets (R86, R174) ====

/-- The straps add to the base address (R174). -/
theorem strapAddress_eq (a1 a0 : Bool) : strapAddress a1 a0 = BitVec.ofNat 7 (0x5C + 2 * a1.toNat + a0.toNat) := by
  cases a1 <;> cases a0 <;> rfl

theorem exec_resetnRelease_low {s : State} (h : s.lines.resetN = false) (a1 a0 : Bool) :
    exec (.resetnRelease a1 a0) s = .next
      { s with
        port := { s.port with target := BitVec.ofNat 7 (0x5C + 2 * a1.toNat + a0.toNat) }
        lines := { resetN := true, attn := s.lines.attn, epochPulse := false, ack := .none, sent := none } } := by
  simp only [exec, execResetnRelease]
  rw [if_neg (by simp [h]), strapAddress_eq]
  rfl

theorem exec_resetnRelease_high {s : State} (h : s.lines.resetN = true) (a1 a0 : Bool) :
    exec (.resetnRelease a1 a0) s = .next (s.showing .none) := by
  simp only [exec, execResetnRelease]
  rw [if_pos (by simp [h])]
  rfl

/-- Settles O3: the record that device reset leaves is written out in the model, and the straps count when the reset ends. -/
theorem deviceResetSetsEveryBlock : Obligations.DeviceResetSetsEveryBlock :=
  ⟨fun _ => rfl, fun _ a1 a0 h => exec_resetnRelease_low h a1 a0, fun _ a1 a0 h => exec_resetnRelease_high h a1 a0⟩

/-- Settles O60: the tables are empty, the sweep is IDLE and the pass has not begun. -/
theorem lawsHoldAtReset : Obligations.LawsHoldAtReset :=
  ⟨.of_empty rfl, fun _ _ => Table.get_replicate_default _ _, .of_empty rfl, .of_empty rfl,
    ⟨Nat.zero_le _, fun hne => absurd rfl hne⟩,
    .of_uncharged .default rfl fun i => congrArg SlotRecord.holdCharged (slots_empty i),
    State.reset_sweepOk, State.reset_cursorOk, fun h => absurd h Bool.noConfusion, .of_notStarted rfl rfl,
    (State.EvidenceCleared.of_empty rfl).evidenceOk, .of_empty rfl, State.reset_figuresOk, State.reset_queueOk, rfl⟩

end Sys2Proof.Machine
end

section
/-!
The events of the fixture bus (R173–R183): the boundaries of a transaction, address bytes and the read phase they open, written
bytes by the state of the port, and the bytes of a reply.
-/

namespace Sys2Proof.Machine

-- ==== A byte and its parity bit (R173, R174) ====

@[simp] theorem goodParity_parityBit (b : Byte) : goodParity b (parityBit b) = true := by
  simp [goodParity]

theorem goodParity_of_ne {b : Byte} {p : Bool} (h : p ≠ parityBit b) : goodParity b p = false := by
  simp [goodParity, h]

theorem addressOf_eq_iff {b : Byte} {target : BitVec 7} : addressOf b = target ↔ b.toNat / 2 = target.toNat := by
  have hb := b.isLt
  rw [← BitVec.toNat_inj, addressOf, BitVec.extractLsb'_toNat, Nat.shiftRight_eq_div_pow]
  omega

theorem isRead_eq (b : Byte) : isRead b = decide (b.toNat % 2 = 1) := by
  rw [isRead, BitVec.getLsbD, Nat.testBit_zero]

-- ==== Whole requests ====

theorem requestOf_report_length (slot : Byte) (epoch : Half) (group count : Byte) (records : List LaneRecord) :
    ([slot] ++ halfBytes epoch ++ [group, count] ++ records.flatMap recordBytes).length = 5 + 15 * records.length := by
  simp only [List.length_append, flatMap_recordBytes_length]
  rfl

/-- Every request command is a frame with an entry to judge it by, of the length its frame carries (R176, R184). -/
theorem exec_request {c : Instr} {rq : Requester} {code : BitVec 7} {p : List Byte}
    (h : requestOf c = some (rq, code, p)) : ∃ e, ∀ s, exec c s = .next (s.deliver rq e p.length) := by
  cases c <;> cases h
  case report slot epoch group count records =>
    rw [requestOf_report_length]
    exact ⟨_, fun _ => rfl⟩
  all_goals exact ⟨_, fun _ => rfl⟩

theorem exec_request_low {c : Instr} {s : State} (hc : (requestOf c).isSome = true) (h : s.lines.resetN = false) :
    exec c s = .next (s.showing .none) := by
  obtain ⟨⟨rq, code, p⟩, hr⟩ := Option.isSome_iff_exists.1 hc
  obtain ⟨e, he⟩ := exec_request hr
  rw [he, State.deliver_low h]
  rfl

theorem exec_request_latched {c : Instr} {s : State} (hc : (requestOf c).isSome = true) (h : s.lines.resetN = true)
    (hl : s.port.latch = true) : exec c s = .next (s.showing .nak) := by
  obtain ⟨⟨rq, code, p⟩, hr⟩ := Option.isSome_iff_exists.1 hc
  obtain ⟨e, he⟩ := exec_request hr
  rw [he, State.deliver_latched h hl]
  rfl

-- ==== The boundaries of a transaction (R179) ====

/-- Settles O6: each boundary is one assignment to the port. -/
theorem transactionBoundaries : Obligations.TransactionBoundaries := by
  intro s h
  refine ⟨?_, ?_, ?_⟩
  · simp only [exec, execTransactionStart]
    rw [if_pos (by simp [h])]
    rfl
  · simp only [exec, execRepeatedStart]
    rw [if_pos (by simp [h])]
    rfl
  · simp only [exec, execStop]
    rw [if_pos (by simp [h])]
    rfl

-- ==== Address bytes (R174, R178–R180) ====

section Address

variable {s : State} {d : Byte}

/-- A byte that the part cannot take for an address changes nothing. -/
theorem exec_addressByte_idle (h : ¬ (s.lines.resetN = true ∧ s.port.bus = .address)) (p : Bool) :
    exec (.addressByte d p) s = .next (s.showing .none) := by
  simp only [exec, execAddressByte]
  rw [if_neg (by simpa using h)]
  rfl

theorem exec_addressByte_bad (h : s.lines.resetN = true) (hb : s.port.bus = .address) {p : Bool} (hp : p ≠ parityBit d) :
    exec (.addressByte d p) s = .next (State.showing .nak
      { s with port := { s.port with latch := true, decoder := .free, frame := [], bus := .idle } }) := by
  simp only [exec, execAddressByte]
  rw [if_pos (by simp [h, hb]), goodParity_of_ne hp]
  rfl

theorem exec_addressByte_good (h : s.lines.resetN = true) (hb : s.port.bus = .address) :
    exec (.addressByte d (parityBit d)) s = .next (s.quietLines.takeAddress d) := by
  simp only [exec, execAddressByte]
  rw [if_pos (by simp [h, hb]), goodParity_parityBit, if_pos rfl]

theorem State.takeAddress_other (h : d.toNat / 2 ≠ s.port.target.toNat) : s.takeAddress d = s.freePort .idle :=
  if_neg fun ha => h (addressOf_eq_iff.1 ha)

theorem State.takeAddress_latched (h : d.toNat / 2 = s.port.target.toNat) (hl : s.port.latch = true) :
    s.takeAddress d = State.giveAck .nak { s with port := { s.port with bus := .idle } } := by
  unfold State.takeAddress
  rw [if_pos (addressOf_eq_iff.2 h), if_pos hl]

theorem State.takeAddress_read (h : d.toNat / 2 = s.port.target.toNat) (hl : s.port.latch = false)
    (hr : d.toNat % 2 = 1) : s.takeAddress d = s.openRead.giveAck .ack := by
  unfold State.takeAddress
  rw [if_pos (addressOf_eq_iff.2 h), if_neg (by simp [hl]), if_pos (by simpa [isRead_eq] using hr)]

theorem State.takeAddress_write (h : d.toNat / 2 = s.port.target.toNat) (hl : s.port.latch = false)
    (hw : d.toNat % 2 = 0) : s.takeAddress d = s.openWrite.giveAck .ack := by
  unfold State.takeAddress
  rw [if_pos (addressOf_eq_iff.2 h), if_neg (by simp [hl]), if_neg (by simp [isRead_eq, hw])]

/-- The part's own address with the read bit. -/
theorem exec_addressByte_read (hs : s.Listening) (hb : s.port.bus = .address) (h : d.toNat / 2 = s.port.target.toNat)
    (hr : d.toNat % 2 = 1) : exec (.addressByte d (parityBit d)) s = .next (s.quietLines.openRead.giveAck .ack) := by
  rw [exec_addressByte_good hs.1 hb, State.takeAddress_read (s := s.quietLines) h hs.2 hr]

end Address

/-- Settles O7: the address is bits 7 to 1 of the byte, the direction bit 0. -/
theorem addressBytes : Obligations.AddressBytes := by
  intro s d h
  refine ⟨fun hb hl ht hw => ?_, fun hb ht => ?_, fun hb p => exec_addressByte_idle (fun hn => hb hn.2) p⟩
  · rw [exec_addressByte_good h hb, State.takeAddress_write (s := s.quietLines) ht hl hw]
    rfl
  · rw [exec_addressByte_good h hb, State.takeAddress_other (s := s.quietLines) ht]
    rfl

-- ==== The read phase (R180, R183) ====

theorem State.openRead_pending {s : State} {r : Reply} (h : s.port.decoder = .free ∨ s.port.decoder = .ended)
    (hr : s.port.reply = some r) : s.openRead = s.holdReply s.port.decoder { r with position := 0 } := by
  unfold State.openRead
  obtain h | h := h <;> (rw [h]; simp only [State.readPending, hr])

theorem State.openRead_default {s : State} (h : (s.port.decoder = .free ∧ s.port.reply = none) ∨
    (s.port.decoder = .header ∧ s.port.frame = [])) : s.openRead = s.holdReply .free s.defaultRead := by
  unfold State.openRead
  obtain ⟨hd, hr⟩ | ⟨hd, hf⟩ := h
  · rw [hd]
    simp only [State.readPending, hr]
  · rw [hd]
    exact if_pos hf

theorem State.openRead_short {s : State} (h : (s.port.decoder = .header ∧ s.port.frame ≠ []) ∨
    s.port.decoder = .payload ∨ s.port.decoder = .check) : s.openRead = s.shortFrame := by
  unfold State.openRead
  obtain ⟨hd, hf⟩ | hd | hd := h <;> rw [hd]
  exact if_neg hf

/-- The check flag of a frame so far stands in its second byte (R176, R180). -/
theorem frameCheck_eq (frame : List Byte) : frameCheck frame = (match frame with | _ :: b :: _ => b.msb | _ => false) := by
  match frame with
  | [] => rfl
  | [_] => exact (by decide : BitVec.msb (0 : Byte) = false)
  | _ :: _ :: _ => rfl

/-- Settles O8: the reply held, the default read, or BAD_LENGTH, by the decoder. -/
theorem readPhaseOpens : Obligations.ReadPhaseOpens := by
  intro s d hs hb ht hr
  rw [exec_addressByte_read hs hb ht hr]
  refine ⟨fun r hd hreply => ?_, fun hd => ?_, fun hd => ?_⟩
  · rw [State.openRead_pending (s := s.quietLines) hd hreply]
    rfl
  · rw [State.openRead_default (s := s.quietLines) hd]
    rfl
  · rw [State.openRead_short (s := s.quietLines) hd, State.shortFrame, frameCheck_eq]
    rfl

-- ==== Written bytes (R173, R178, R180) ====

section Written

variable {s : State} {d : Byte} {p : Bool}

theorem State.receive_low (h : s.lines.resetN = false) (take : State → State) : s.receive d p take = s := by
  simp [State.receive, h]

theorem State.receive_latched (h : s.lines.resetN = true) (hl : s.port.latch = true) (take : State → State) :
    s.receive d p take = s.giveAck .nak := by
  simp [State.receive, h, hl]

theorem State.receive_bad (hs : s.Listening) (hb : s.port.bus = .writing) (hp : p ≠ parityBit d) (take : State → State) :
    s.receive d p take = s.setLatch s.port.bus := by
  simp [State.receive, hs.1, hs.2, hb, goodParity_of_ne hp]

theorem State.receive_good (hs : s.Listening) (hb : s.port.bus = .writing) (take : State → State) :
    s.receive d (parityBit d) take = take s := by
  simp [State.receive, hs.1, hs.2, hb]

theorem State.quietLines_listening (hs : s.Listening) : s.quietLines.Listening := hs

/-- A byte with good parity written to the part is taken by the decoder. -/
theorem exec_writeByte_good (hs : s.Listening) (hb : s.port.bus = .writing) :
    exec (.writeByte d (parityBit d)) s = .next (s.quietLines.takeByte d) :=
  congrArg Host.Outcome.next (State.receive_good (s := s.quietLines) hs hb _)

theorem State.takeByte_ended (h : s.port.decoder = .ended) (b : Byte) : s.takeByte b = s.excess := by
  unfold State.takeByte
  rw [h]

end Written

/-- An excess byte is a written byte: the decoder takes both alike, in every state. -/
theorem exec_excessByte (s : State) (d : Byte) (p : Bool) : exec (.excessByte d p) s = exec (.writeByte d p) s := by
  have htake : (fun t : State => if t.port.decoder = .ended then t.excess else t.takeByte d) = State.takeByte d := by
    funext t
    split
    · rename_i hended
      exact (State.takeByte_ended hended d).symm
    · rfl
  show Host.Outcome.next (s.quietLines.receive d p fun t => if t.port.decoder = .ended then t.excess else t.takeByte d) = _
  rw [htake]
  rfl

/-- Settles O5: low RESETn, the latch and the two errors that set it are the first tests on every byte. -/
theorem deafOrLatched : Obligations.DeafOrLatched := by
  refine ⟨fun s c h hc => ?_, fun s h hl => ⟨fun c hc => exec_request_latched hc h hl, fun d p => ?_, fun d hb ht => ?_⟩,
    fun s d p hs hb hp => ?_, fun s d p h hb hp => exec_addressByte_bad h hb hp, fun s d hs hb hd hcrc => ?_⟩
  · cases c with
    | transactionStart => simp only [exec, execTransactionStart]; rw [if_neg (by simp [h])]; rfl
    | repeatedStart => simp only [exec, execRepeatedStart]; rw [if_neg (by simp [h])]; rfl
    | stop => simp only [exec, execStop]; rw [if_neg (by simp [h])]; rfl
    | addressByte d p => exact exec_addressByte_idle (fun hn => absurd (h.symm.trans hn.1) Bool.noConfusion) p
    | writeByte d p => exact congrArg Host.Outcome.next (State.receive_low (s := s.quietLines) h _)
    | excessByte d p => exact congrArg Host.Outcome.next (State.receive_low (s := s.quietLines) h _)
    | _ => exact exec_request_low hc h
  · exact ⟨congrArg Host.Outcome.next (State.receive_latched (s := s.quietLines) h hl _),
      congrArg Host.Outcome.next (State.receive_latched (s := s.quietLines) h hl _)⟩
  · rw [exec_addressByte_good h hb, State.takeAddress_latched (s := s.quietLines) ht hl]
    rfl
  · exact congrArg Host.Outcome.next (State.receive_bad (s := s.quietLines) hs hb hp _)
  · rw [exec_writeByte_good hs hb, State.takeByte, State.quietLines_port, hd]
    dsimp only
    rw [State.checkByte, if_neg (by simpa using hcrc)]
    rw [← hb]
    rfl

/-- Settles O10: only the reply to an ended frame changes, and only the first time. -/
theorem excessByteReplacesTheReply : Obligations.ExcessByteReplacesTheReply := by
  refine ⟨fun s d r hs hb hd hr => ?_, exec_excessByte⟩
  have hexcess : exec (.excessByte d (parityBit d)) s = .next s.quietLines.excess := by
    rw [exec_excessByte, exec_writeByte_good hs hb, State.takeByte_ended (s := s.quietLines) hd]
  rw [hexcess]
  refine ⟨fun hne => ?_, fun heq => ?_⟩
  · simp only [State.excess, State.quietLines_port, hr]
    rw [if_neg hne]
    rfl
  · simp only [State.excess, State.quietLines_port, hr]
    rw [if_pos heq]
    rfl

end Sys2Proof.Machine
end

section
/-!
The bytes of a reply as a master reads them (R182), and the parity bit and the check byte that guard the bytes (R173, R177).
-/

namespace Sys2Proof.Machine

-- ==== The read phase (R182) ====

/-- A reply byte in a read phase: the byte at the read position, which moves on up to the end of the reply. -/
theorem exec_replyByte_reading {s : State} {r : Reply} (hb : s.port.bus = .reading) (hr : s.port.reply = some r) (a : Bool) :
    exec (.replyByte a) s = .next (s.quietLines.sendReply r a) := by
  simp only [exec, execReplyByte, State.quietLines_port, hb, hr]

theorem exec_replyByte_ended {s : State} (hb : s.port.bus = .readEnded) (a : Bool) :
    exec (.replyByte a) s = .next (s.quietLines.send 0xFF) := by
  simp only [exec, execReplyByte, State.quietLines_port, hb]

theorem Reply.body_eq (r : Reply) :
    r.body = [r.result.code, r.phase] ++ twoBytes r.epoch ++ [byte r.payload.length] ++ r.payload := by
  rw [Reply.body, be_two, be_one]

/-- The byte and the parity bit that the part puts on the data line. -/
def sentOf (b : Byte) : Option SentByte := some { data := b, parity := parityBit b }

theorem sentOf_idle : sentOf 0xFF = some { data := 0xFF, parity := true } := rfl

/-- A byte read that the master acknowledges: it is the current one, and the rest is read on from the next position. -/
theorem State.readAll_succ {s : State} {r : Reply} (hb : s.port.bus = .reading) (hr : s.port.reply = some r) (n : Nat) :
    s.readAll (n + 1) = sentOf r.current :: (s.quietLines.sendReply r true).readAll n := by
  rw [State.readAll, exec_replyByte_reading hb hr]
  rfl

theorem Reply.advance_bytes (r : Reply) : r.advance.bytes = r.bytes := rfl

/-- What is left of a reply is read byte by byte, and then the line is idle. -/
theorem State.readAll_rest (n : Nat) {s : State} {r : Reply} (hb : s.port.bus = .reading) (hr : s.port.reply = some r)
    {rest : List Byte} (hrest : r.bytes.drop r.position = rest) (hp : r.position ≤ r.bytes.length) :
    s.readAll (rest.length + n) = rest.map sentOf ++ List.replicate n (sentOf 0xFF) := by
  induction rest generalizing s r with
  | nil =>
    have hend : r.position = r.bytes.length := Nat.le_antisymm hp (List.drop_eq_nil_iff.1 hrest)
    induction n generalizing s r with
    | zero => rfl
    | succ n ih =>
      have hcurrent : r.current = 0xFF := by
        rw [Reply.current, hend]
        exact List.getD_eq_default (hn := le_rfl) ..
      have hstays : r.advance.position = r.advance.bytes.length := by
        rw [Reply.advance_bytes, Reply.advance]
        dsimp only
        omega
      have hread := ih (s := s.quietLines.sendReply r true) rfl rfl (r := r.advance)
        (by rw [hstays]; exact List.drop_length) hstays.le hstays
      simp only [List.length_nil, Nat.zero_add, List.map_nil, List.nil_append] at hread ⊢
      rw [State.readAll_succ hb hr, hcurrent, hread]
      rfl
  | cons b rest ih =>
    have hlt : r.position < r.bytes.length := by
      by_contra hge
      rw [List.drop_eq_nil_of_le (Nat.le_of_not_lt hge)] at hrest
      exact absurd hrest (by simp)
    obtain ⟨hb', hrest'⟩ : r.bytes[r.position] = b ∧ r.bytes.drop (r.position + 1) = rest := by
      rw [List.drop_eq_getElem_cons hlt] at hrest
      exact List.cons.inj hrest
    have hcurrent : r.current = b := by
      rw [Reply.current, List.getD_eq_getElem _ _ hlt, hb']
    have hmoves : r.advance.position = r.position + 1 := Nat.min_eq_left hlt
    have hread := ih (s := s.quietLines.sendReply r true) rfl rfl (r := r.advance)
      (by rw [Reply.advance_bytes, hmoves]; exact hrest') (by rw [Reply.advance_bytes, hmoves]; exact hlt)
    rw [List.length_cons, Nat.add_right_comm, State.readAll_succ hb hr, hcurrent, hread]
    rfl

/-- Settles O11: the reply is read from its first byte to its last, and 0xFF after it. -/
theorem readPhaseSendsTheWholeReply : Obligations.ReadPhaseSendsTheWholeReply := by
  refine ⟨fun s r a hb hr => exec_replyByte_reading hb hr a, fun s a hb => exec_replyByte_ended hb a,
    fun r => ⟨r.body, r.body_eq, rfl⟩, fun s r n hb hr hp => ?_⟩
  exact State.readAll_rest n hb hr (by rw [hp]; rfl) (by rw [hp]; exact Nat.zero_le _)

-- ==== The parity bit (R173) ====

/-- A running exclusive-or says whether the number of ones is odd. -/
theorem foldl_xor_eq {α : Type} (f : α → Bool) (l : List α) (acc : Bool) :
    l.foldl (fun acc i => acc ^^ f i) acc = (acc ^^ decide (l.countP f % 2 = 1)) := by
  induction l generalizing acc with
  | nil => simp
  | cons a l ih =>
    rw [List.foldl_cons, ih, List.countP_cons, Bool.xor_assoc]
    congr 1
    cases f a
    · simp
    · have hflip : decide ((l.countP f + 1) % 2 = 1) = !decide (l.countP f % 2 = 1) := by
        rw [← decide_not, decide_eq_decide]
        omega
      simp [hflip]

theorem oddOnes_eq (b : Byte) : oddOnes b = decide ((List.range 8).countP (fun i => b.getLsbD i) % 2 = 1) := by
  rw [oddOnes, foldl_xor_eq, Bool.false_xor]

theorem ones_with_parity (b : Byte) :
    ((List.range 8).countP (fun i => b.getLsbD i) + (parityBit b).toNat) % 2 = 1 := by
  rw [parityBit, oddOnes_eq]
  by_cases h : (List.range 8).countP (fun i => b.getLsbD i) % 2 = 1
  · simp [h]
  · simp only [h, decide_false, Bool.not_false, Bool.toNat_true]
    omega

-- ==== The check byte (R177) ====

/-- A shift of the CRC is linear: the polynomial is added once for each one bit that leaves the top. -/
theorem crcShift_xor (v w : Byte) : crcShift (v ^^^ w) = crcShift v ^^^ crcShift w := by
  unfold crcShift
  rw [BitVec.msb_xor, BitVec.shiftLeft_xor_distrib]
  cases v.msb <;> cases w.msb
  · rfl
  · exact BitVec.xor_assoc ..
  · show v <<< 1 ^^^ w <<< 1 ^^^ (7 : Byte) = v <<< 1 ^^^ (7 : Byte) ^^^ w <<< 1
    rw [BitVec.xor_assoc, BitVec.xor_comm (w <<< 1), ← BitVec.xor_assoc]
  · show v <<< 1 ^^^ w <<< 1 = v <<< 1 ^^^ (7 : Byte) ^^^ (w <<< 1 ^^^ (7 : Byte))
    rw [BitVec.xor_comm (w <<< 1) (7 : Byte), BitVec.xor_assoc, ← BitVec.xor_assoc (7 : Byte), BitVec.xor_self, BitVec.zero_xor]

/-- The polynomial has a constant term, so a shift loses nothing. -/
theorem crcShift_eq_zero {v : Byte} (h : crcShift v = 0) : v = 0 := by
  revert v
  decide

/-- Eight shifts of the CRC. -/
def crcShifts (v : Byte) : Byte := (List.range 8).foldl (fun acc _ => crcShift acc) v

theorem crcByte_eq (v b : Byte) : crcByte v b = crcShifts (v ^^^ b) := rfl

theorem crcShifts_xor (v w : Byte) : crcShifts (v ^^^ w) = crcShifts v ^^^ crcShifts w := by
  unfold crcShifts
  induction List.range 8 generalizing v w with
  | nil => rfl
  | cons _ l ih => simp only [List.foldl_cons, crcShift_xor, ih]

theorem crcShifts_eq_zero {v : Byte} : crcShifts v = 0 ↔ v = 0 := by
  constructor
  · unfold crcShifts
    induction List.range 8 generalizing v with
    | nil => exact id
    | cons _ l ih => exact fun h => crcShift_eq_zero (ih h)
  · rintro rfl
    rfl

theorem crcByte_xor (v w b c : Byte) : crcByte (v ^^^ w) (b ^^^ c) = crcByte v b ^^^ crcByte w c := by
  rw [crcByte_eq, crcByte_eq, crcByte_eq, ← crcShifts_xor]
  congr 1
  rw [BitVec.xor_assoc, ← BitVec.xor_assoc w, BitVec.xor_comm w b, BitVec.xor_assoc, ← BitVec.xor_assoc, ← BitVec.xor_assoc]

theorem foldl_crcByte_xor (l m : List Byte) (h : l.length = m.length) (v w : Byte) :
    (List.zipWith (· ^^^ ·) l m).foldl crcByte (v ^^^ w) = l.foldl crcByte v ^^^ m.foldl crcByte w := by
  induction l generalizing m v w with
  | nil =>
    obtain rfl : m = [] := List.length_eq_zero_iff.1 h.symm
    rfl
  | cons b l ih =>
    cases m with
    | nil => exact absurd h (by simp)
    | cons c m =>
      simp only [List.zipWith_cons_cons, List.foldl_cons, crcByte_xor]
      exact ih m (Nat.succ.inj h) _ _

theorem crc8_append_eq_zero (l : List Byte) (b : Byte) : crc8 (l ++ [b]) = 0 ↔ b = crc8 l := by
  rw [crc8, List.foldl_append, List.foldl_cons, List.foldl_nil, crcByte_eq, crcShifts_eq_zero]
  exact BitVec.xor_eq_zero_iff.trans eq_comm

/-- The worked example of R177, byte by byte. -/
theorem crc8_statusFrame : crc8 [0x70, 0x90, 0x00] = 0x86 := by
  have source : crcByte 0 0x70 = 0x57 := by decide
  have request : crcByte 0x57 0x90 = 0x5b := by decide
  have length : crcByte 0x5b 0x00 = 0x86 := by decide
  simp only [crc8, List.foldl_cons, List.foldl_nil, source, request, length]

/-- Settles O12: the shifts are linear and lose nothing. -/
theorem parityAndCheckBytes : Obligations.ParityAndCheckBytes :=
  ⟨ones_with_parity, crc8_append_eq_zero, fun l m h => foldl_crcByte_xor l m h 0 0, by decide, crc8_statusFrame⟩

end Sys2Proof.Machine
end

section
/-!
The owning blocks do not see the port: what a block does with a request is the same whatever the port holds (R181).
-/

namespace Sys2Proof.Machine

/-- The part with another port. -/
def State.withPort (p : Port) (s : State) : State := { s with port := p }

/-- An answer whose state has another port. -/
def Answer.withPort (p : Port) (a : Answer) : Answer := { a with state := a.state.withPort p }

-- ==== The shared operations ====

section Operations

variable (p : Port) (s : State)

@[simp] theorem State.withPort_seq : (s.withPort p).seq = s.seq := rfl

@[simp] theorem State.withPort_cursor : (s.withPort p).cursor = s.cursor := rfl

@[simp] theorem State.withPort_links : (s.withPort p).links = s.links := rfl

@[simp] theorem State.withPort_slots : (s.withPort p).slots = s.slots := rfl

@[simp] theorem State.withPort_findings : (s.withPort p).findings = s.findings := rfl

theorem State.ensureQuietCall_withPort : (s.withPort p).ensureQuietCall = s.ensureQuietCall.withPort p := by
  unfold State.ensureQuietCall
  rw [State.withPort_seq]
  split <;> rfl

theorem State.stopPass_withPort : (s.withPort p).stopPass = s.stopPass.withPort p := by
  unfold State.stopPass
  rw [State.withPort_cursor]
  split <;> rfl

theorem State.abortStopped_withPort (c : AbortCause) : (s.withPort p).abortStopped c = (s.abortStopped c).withPort p := by
  have hcall := State.ensureQuietCall_withPort p ((s.closeSweep).setCause c)
  show State.enterAborting (State.restartTimer (((s.closeSweep).setCause c).withPort p).ensureQuietCall) = _
  rw [hcall]
  rfl

theorem State.abortReduce_withPort (c : AbortCause) : (s.withPort p).abortReduce c = (s.abortReduce c).withPort p := by
  have hstop : ((s.withPort p).setCause c).stopPass = (s.setCause c).stopPass.withPort p :=
    State.stopPass_withPort p (s.setCause c)
  unfold State.abortReduce
  rw [hstop]
  dsimp only
  rw [State.withPort_seq]
  split <;> rfl

theorem State.abortSweep_withPort (c : AbortCause) : (s.withPort p).abortSweep c = (s.abortSweep c).withPort p := by
  unfold State.abortSweep
  rw [State.withPort_seq]
  split
  case h_5 => exact s.abortStopped_withPort p c
  case h_6 => exact s.abortStopped_withPort p c
  case h_7 => exact s.abortReduce_withPort p c
  all_goals rfl

theorem State.activeFell_withPort : (s.withPort p).activeFell = s.activeFell.withPort p := by
  unfold State.activeFell State.allLost
  rw [apply_ite (State.withPort p), apply_ite (State.withPort p), State.abortSweep_withPort]
  rfl

theorem State.quietAnswered_withPort : (s.withPort p).quietAnswered = s.quietAnswered.withPort p := by
  unfold State.quietAnswered
  rw [apply_ite (State.withPort p)]
  dsimp only [State.withPort_seq]
  cases s.seq.sweep with
  | reduce =>
    dsimp only
    rw [apply_ite (State.withPort p)]
    rfl
  | _ => rfl

theorem State.finishPass_withPort : (s.withPort p).finishPass = s.finishPass.withPort p := by
  unfold State.finishPass
  dsimp only
  rw [apply_ite (State.withPort p)]
  rfl

theorem State.advance_withPort : (s.withPort p).advance = s.advance.withPort p := by
  have hused : ∀ k, (s.withPort p).usedIdFrom k = s.usedIdFrom k := fun _ => rfl
  unfold State.advance
  simp only [State.withPort_cursor, hused]
  split
  · split <;> rfl
  · rw [apply_ite (State.withPort p), State.finishPass_withPort]
    rfl
  · rfl

theorem State.pushPending_withPort (f : Finding) : (s.withPort p).pushPending f = (s.pushPending f).withPort p :=
  State.advance_withPort p (State.pushFinding f { s with cursor := { s.cursor with pendingFinding := none } })

theorem State.hear_withPort (rx : Nat) (tx : Option Nat) : State.hear rx tx (s.withPort p) = (State.hear rx tx s).withPort p := by
  cases tx <;> rfl

theorem State.applyRecord_withPort (measure : Bool) (rx : Nat) (r : LaneRecord) :
    (s.withPort p).applyRecord measure rx r = (s.applyRecord measure rx r).withPort p :=
  State.hear_withPort p
    { s with observations := s.observations.set rx ((s.observations.get rx).apply s.generation measure r) } rx _

theorem State.applyRecords_withPort (measure : Bool) (slot : Nat) (records : List LaneRecord) :
    (s.withPort p).applyRecords measure slot records = (s.applyRecords measure slot records).withPort p := by
  unfold State.applyRecords
  induction records generalizing s with
  | nil => rfl
  | cons r l ih => rw [List.foldl_cons, List.foldl_cons, State.applyRecord_withPort, ih]

theorem State.takeReport_withPort (slot n g : Nat) (records : List LaneRecord) :
    (s.withPort p).takeReport slot n g records = (s.takeReport slot n g records).withPort p :=
  State.applyRecords_withPort p { s with windows := s.windows.set slot ((s.windows.get slot).take g records) } _ slot records

theorem State.leaveHalt_withPort (o : HaltOrigin) : (s.withPort p).leaveHalt o = (s.leaveHalt o).withPort p := by
  cases o with
  | aborting => rfl
  | reduce =>
    unfold State.leaveHalt
    dsimp only
    rw [apply_ite (State.withPort p)]
    rfl

end Operations

-- ==== The requests ====

/-- What an owning block does with a request is the same whatever the port holds. -/
def PortBlind (b : State → Answer) : Prop := ∀ p s, b (s.withPort p) = (b s).withPort p

theorem enrolOwn_portBlind (slot lanes : Nat) (r : SlotRecord) : PortBlind (enrolOwn slot lanes r) := by
  intro p s
  unfold enrolOwn
  split
  case h_4 =>
    have hfell := State.activeFell_withPort p (s.setSlot slot { r with state := .lost })
    exact congrArg (fun t => Answer.mk t .restarted []) hfell
  all_goals rfl

theorem enrolOther_portBlind (src : SourceId) (slot : Nat) (r : SlotRecord) : PortBlind (enrolOther src slot r) := by
  intro p s
  unfold enrolOther
  split
  case h_2 =>
    have hfell := State.activeFell_withPort p (s.setSlot slot (r.contested src))
    exact congrArg (fun t => Answer.mk t .conflict []) hfell
  all_goals rfl

theorem enrolNamed_portBlind (src : SourceId) (slot lanes : Nat) (r : SlotRecord) :
    PortBlind (enrolNamed src slot lanes r) := by
  intro p s
  unfold enrolNamed
  rw [enrolOwn_portBlind, enrolOther_portBlind, apply_ite (Answer.withPort p), apply_ite (Answer.withPort p)]
  rfl

theorem enrolBody_portBlind (src : SourceId) (slot lanes : Byte) : PortBlind (enrolBody src slot lanes) := by
  intro p s
  have hheld : (s.withPort p).heldElsewhere src slot.toNat = s.heldElsewhere src slot.toNat := rfl
  unfold enrolBody
  rw [apply_ite (Answer.withPort p), hheld, State.withPort_slots]
  cases s.heldElsewhere src slot.toNat with
  | some k => rfl
  | none =>
    dsimp only
    rw [enrolNamed_portBlind]
    rfl

theorem leaveSlot_portBlind (slot : Nat) : PortBlind (leaveSlot slot) := by
  intro p s
  unfold leaveSlot
  rw [State.withPort_slots]
  split <;> rfl

theorem fetchSlot_portBlind (slot page : Nat) : PortBlind (fetchSlot slot page) := by
  intro p s
  unfold fetchSlot
  simp only [apply_ite (Answer.withPort p)]
  rfl

theorem readySlot_portBlind (slot : Nat) : PortBlind (readySlot slot) := by
  intro p s
  unfold readySlot
  simp only [apply_ite (Answer.withPort p)]
  rfl

theorem holdGranted_portBlind (slot h : Nat) : PortBlind (holdGranted slot h) := by
  intro p s
  unfold holdGranted
  dsimp only
  rw [apply_ite (Answer.withPort p)]
  rfl

theorem holdSlot_portBlind (slot h : Nat) : PortBlind (holdSlot slot h) := by
  intro p s
  unfold holdSlot
  simp only [apply_ite (Answer.withPort p), holdGranted_portBlind slot h p s]
  rfl

/-- A request judged against the source's slot. -/
theorem slotOf_portBlind (src : SourceId) {b : Nat → State → Answer} (h : ∀ slot, PortBlind (b slot)) :
    PortBlind fun s => match s.slotOf src with
      | none => refuse .notEnrolled s
      | some slot => b slot s := by
  intro p s
  have hslot : (s.withPort p).slotOf src = s.slotOf src := rfl
  dsimp only
  rw [hslot]
  cases s.slotOf src with
  | none => rfl
  | some slot => exact h slot p s

theorem judgeReport_portBlind (src : SourceId) (slot n g count : Nat) (records : List LaneRecord) :
    PortBlind (judgeReport src slot n g count records) := by
  intro p s
  unfold judgeReport
  rw [State.takeReport_withPort]
  simp only [apply_ite (Answer.withPort p)]
  rfl

theorem quietBody_portBlind (src : SourceId) : PortBlind (quietBody src) := by
  intro p s
  have hslot : (s.withPort p).probeSlotOf src = s.probeSlotOf src := rfl
  unfold quietBody
  rw [hslot]
  cases s.probeSlotOf src with
  | none => rfl
  | some slot =>
    have hanswered := State.quietAnswered_withPort p (s.acknowledge slot)
    dsimp only
    rw [apply_ite (Answer.withPort p), show (s.withPort p).acknowledge slot = (s.acknowledge slot).withPort p from rfl,
      hanswered]
    rfl

theorem statusBody_portBlind (src : SourceId) : PortBlind (statusBody src) := by
  intro p s
  unfold statusBody
  cases isStation src <;> rfl

theorem setLinkBody_portBlind (f : LinkFields) : PortBlind (setLinkBody f) := by
  intro p s
  have hused : (s.withPort p).usedLinks = s.usedLinks := rfl
  unfold setLinkBody State.offerLink
  rw [hused]
  simp only [apply_ite (Answer.withPort p)]
  cases classOf f.cls with
  | none => rfl
  | some k =>
    dsimp only
    cases overlap s.usedLinks f.id.toNat (linkOf f k) <;> rfl

theorem dropLinkBody_portBlind (id : Half) : PortBlind (dropLinkBody id) := by
  intro p s
  unfold dropLinkBody
  rw [State.withPort_links]
  simp only [apply_ite (Answer.withPort p)]
  cases s.links.get id.toNat <;> rfl

theorem getLinkBody_portBlind (id : Half) : PortBlind (getLinkBody id) := by
  intro p s
  unfold getLinkBody
  rw [State.withPort_links, apply_ite (Answer.withPort p)]
  cases s.links.get id.toNat <;> rfl

theorem setClassBody_portBlind (cls qreq band : Byte) : PortBlind (setClassBody cls qreq band) := by
  intro p s
  unfold setClassBody
  rw [apply_ite (Answer.withPort p)]
  cases classOf cls <;> rfl

theorem getClassBody_portBlind (cls : Byte) : PortBlind (getClassBody cls) := by
  intro p s
  unfold getClassBody
  cases classOf cls <;> rfl

theorem startBody_portBlind : PortBlind startBody := by
  intro p s
  unfold startBody startAtRest
  rw [State.withPort_seq]
  cases s.seq.sweep with
  | idle | done | aborted =>
    dsimp only
    rw [apply_ite (Answer.withPort p)]
    rfl
  | _ => rfl

theorem abortBody_portBlind : PortBlind abortBody := by
  intro p s
  unfold abortBody
  rw [State.withPort_seq, State.abortSweep_withPort]
  cases s.seq.sweep <;> rfl

theorem continueBody_portBlind : PortBlind continueBody := by
  intro p s
  unfold continueBody
  rw [State.withPort_seq]
  split <;> rfl

theorem clearHaltBody_portBlind : PortBlind clearHaltBody := by
  intro p s
  unfold clearHaltBody
  rw [State.withPort_seq]
  cases s.seq.sweep with
  | halted o => exact congrArg (accept []) (State.leaveHalt_withPort p s.answerQuiet o)
  | _ => rfl

theorem resetCampaignBody_portBlind : PortBlind resetCampaignBody := by
  intro p s
  unfold resetCampaignBody
  rw [State.withPort_seq]
  cases s.seq.sweep <;> rfl

theorem peekFindingBody_portBlind : PortBlind peekFindingBody := by
  intro p s
  unfold peekFindingBody
  rw [State.withPort_findings]
  cases s.findings <;> rfl

theorem releaseHead_portBlind (head : QueuedFinding) (rest : List QueuedFinding) : PortBlind (releaseHead head rest) := by
  intro p s
  unfold releaseHead
  rw [State.withPort_cursor]
  cases s.cursor.pendingFinding with
  | none => rfl
  | some f =>
    have hpushed := State.pushPending_withPort p { s with findings := rest } f
    exact congrArg (fun t => accept (releasePayload head.seq true t) t) hpushed

theorem releaseFindingBody_portBlind (seq : Half) : PortBlind (releaseFindingBody seq) := by
  intro p s
  unfold releaseFindingBody
  rw [State.withPort_findings]
  cases s.findings with
  | nil => rfl
  | cons head rest =>
    dsimp only
    rw [apply_ite (Answer.withPort p), releaseHead_portBlind]
    rfl

/-- Every request of the catalogue. -/
theorem CatalogueBody.portBlind {src : SourceId} {b : State → Answer} (h : CatalogueBody src b) : PortBlind b := by
  have guarded {c : State → Prop} [DecidablePred c] {t e : State → Answer} (hc : ∀ p s, c (s.withPort p) = c s)
      (ht : PortBlind t) (he : PortBlind e) : PortBlind fun s => if c s then t s else e s := by
    intro p s
    dsimp only
    rw [ht, he, apply_ite (Answer.withPort p)]
    simp only [hc]
  have refusal (r : Result) : PortBlind (refuse r) := fun _ _ => rfl
  cases h with
  | enrol slot lanes => exact enrolBody_portBlind src slot lanes
  | leave => exact slotOf_portBlind src leaveSlot_portBlind
  | fetchDrives page => exact slotOf_portBlind src fun slot => fetchSlot_portBlind slot page.toNat
  | ready => exact slotOf_portBlind src readySlot_portBlind
  | report => exact fun p s => judgeReport_portBlind src _ _ _ _ _ p s
  | hold h => exact slotOf_portBlind src fun slot => holdSlot_portBlind slot h.toNat
  | quiet => exact quietBody_portBlind src
  | status => exact statusBody_portBlind src
  | setLink f => exact setLinkBody_portBlind f
  | dropLink id => exact dropLinkBody_portBlind id
  | getLink id => exact getLinkBody_portBlind id
  | clearPlan => exact guarded (fun _ _ => rfl) (fun _ _ => rfl) (refusal .busy)
  | setClass cls qreq band => exact setClassBody_portBlind cls qreq band
  | getClass cls => exact getClassBody_portBlind cls
  | setTiming f => exact guarded (fun _ _ => rfl) (fun _ _ => rfl) (refusal .busy)
  | getTiming => exact fun _ _ => rfl
  | start => exact startBody_portBlind
  | abort => exact abortBody_portBlind
  | continueSweep => exact continueBody_portBlind
  | clearHalt => exact clearHaltBody_portBlind
  | resetCampaign => exact resetCampaignBody_portBlind
  | getSlot slot => exact guarded (fun _ _ => rfl) (fun _ _ => rfl) (refusal .range)
  | releaseSlot slot =>
    exact guarded (fun _ _ => rfl)
      (guarded (fun _ _ => rfl) (refusal .empty) (guarded (fun _ _ => rfl) (refusal .busy) fun _ _ => rfl)) (refusal .range)
  | getObservation rx => exact guarded (fun _ _ => rfl) (fun _ _ => rfl) (refusal .range)
  | getHearers tx => exact guarded (fun _ _ => rfl) (fun _ _ => rfl) (refusal .range)
  | getVerdict id => exact guarded (fun _ _ => rfl) (fun _ _ => rfl) (refusal .range)
  | peekFinding => exact peekFindingBody_portBlind
  | releaseFinding seq => exact releaseFindingBody_portBlind seq

end Sys2Proof.Machine
end

section
/-!
The frame decoder (R176) and the judgement of a completed frame (R181): a request command is its frame.
-/

namespace Sys2Proof.Machine

-- ==== The judgement of a frame does not see the port ====

/-- The blocks keep the port, and put no byte on the data line. -/
theorem BlockWork.port {src : SourceId} {s t : State} (h : BlockWork src s t) : t.port = s.port := by
  cases h <;> simp

theorem BlockWork.sent {src : SourceId} {s t : State} (h : BlockWork src s t) : t.lines.sent = s.lines.sent := by
  cases h <;> simp

/-- What the judgement of a frame of the catalogue leaves: the part as it was, or a block's work. -/
theorem judge_catalogue_cases (src : SourceId) (code : BitVec 7) (p : List Byte) (s : State) :
    (judge src (catalogue src code p) s).state = s ∨ BlockWork src s (judge src (catalogue src code p) s).state := by
  obtain hsame | ⟨e, he, hc, -, hj⟩ := judge_cases src (catalogue src code p) s
  · exact .inl hsame
  · rw [hj]
    exact .inr (body_work (catalogue_body he hc) s)

theorem judge_catalogue_port (src : SourceId) (code : BitVec 7) (p : List Byte) (s : State) :
    (judge src (catalogue src code p) s).state.port = s.port := by
  obtain h | h := judge_catalogue_cases src code p s
  · rw [h]
  · exact h.port

theorem judge_catalogue_sent (src : SourceId) (code : BitVec 7) (p : List Byte) (s : State) :
    (judge src (catalogue src code p) s).state.lines.sent = s.lines.sent := by
  obtain h | h := judge_catalogue_cases src code p s
  · rw [h]
  · exact h.sent

theorem judge_catalogue_withPort (src : SourceId) (code : BitVec 7) (p : List Byte) (q : Port) (s : State) :
    judge src (catalogue src code p) (s.withPort q) = (judge src (catalogue src code p) s).withPort q := by
  unfold judge
  rw [apply_ite (Answer.withPort q)]
  cases he : catalogue src code p with
  | none => rfl
  | some e =>
    dsimp only
    by_cases hc : e.cls.permits src = true
    · rw [(catalogue_body he hc).portBlind q s, if_pos hc, if_pos hc]
      rw [apply_ite (Answer.withPort q)]
      rfl
    · rw [if_neg hc, if_neg hc]
      rfl

/-- A completed frame, in the words of the statements. -/
theorem State.completeFrame_judged (rq : Requester) (code : BitVec 7) (p : List Byte) (s : State) :
    s.quietLines.completeFrame rq (catalogue rq.source code p) = s.judged rq code p :=
  State.completeFrame_eq rq _ _ _ rfl (judge_catalogue_sent rq.source code p s.quietLines)

/-- An answered state keeps of its port the target address and the latch alone. -/
theorem State.answered_withPort {t : State} {q : Port} (ht : q.target = t.port.target) (hl : q.latch = t.port.latch)
    (rq : Requester) (r : Result) (payload : List Byte) (pulse : Bool) :
    (t.withPort q).answered rq r payload pulse = t.answered rq r payload pulse := by
  obtain ⟨target, _, _, latch, _, _⟩ := q
  obtain rfl : target = t.port.target := ht
  obtain rfl : latch = t.port.latch := hl
  rfl

/-- The part while a frame is written to it: the byte just taken is ACKed. -/
def State.filling (s : State) (d : DecoderState) (frame : List Byte) : State :=
  State.showing .ack { s with port := { s.port with decoder := d, frame := frame } }

/-- The judgement is the same whatever part of the frame stands in the decoder. -/
theorem State.filling_judged (s : State) (d : DecoderState) (frame : List Byte) (rq : Requester) (code : BitVec 7)
    (p : List Byte) : (s.filling d frame).judged rq code p = s.judged rq code p := by
  have hport := judge_catalogue_port rq.source code p (s.showing .none)
  unfold State.judged
  rw [show (s.filling d frame).showing .none =
    (s.showing .none).withPort { s.port with decoder := d, frame := frame } from rfl, judge_catalogue_withPort]
  dsimp only
  exact State.answered_withPort (congrArg Port.target hport).symm (congrArg Port.latch hport).symm rq _ _ _

-- ==== The bytes of a frame (R176) ====

theorem sourceOf_eq (b : Byte) : sourceOf b = b.setWidth 7 := (BitVec.setWidth_eq_extractLsb' (by decide)).symm

theorem requestCode_eq (b : Byte) : requestCode b = b.setWidth 7 := (BitVec.setWidth_eq_extractLsb' (by decide)).symm

/-- The frame with source id byte `x` and request byte `y` comes from the requester that they name. -/
theorem frameRequester_eq (x y n : Byte) (p : List Byte) :
    frameRequester (x :: y :: n :: p) = { source := x.setWidth 7, check := y.msb } := by
  rw [← sourceOf_eq]
  rfl

/-- A completed frame is judged by the source id, the code and the payload that its bytes carry. -/
theorem State.frameDone_judged (x y n : Byte) (p : List Byte) (s : State) :
    s.quietLines.frameDone (x :: y :: n :: p) = s.judged { source := x.setWidth 7, check := y.msb } (y.setWidth 7) p := by
  have hjudged := State.completeFrame_judged { source := x.setWidth 7, check := y.msb } (y.setWidth 7) p s
  rw [← hjudged, ← frameRequester_eq x y n p, ← requestCode_eq]
  unfold State.frameDone frameEntry
  rw [frameRequester_eq, ← sourceOf_eq]
  rfl

section Decoder

variable {s : State} {b x y n : Byte} {p : List Byte} (hs : s.Listening) (hb : s.port.bus = .writing)

/-- All bytes before the check byte have come (R176). -/
theorem State.bodyDone_flagged (hy : y.msb = true) :
    s.quietLines.bodyDone (x :: y :: n :: p) = s.filling .check (x :: y :: n :: p) := by
  unfold State.bodyDone
  rw [if_pos (by rw [frameCheck_eq]; exact hy)]
  rfl

theorem State.bodyDone_plain (hy : y.msb = false) : s.quietLines.bodyDone (x :: y :: n :: p) =
    s.judged { source := x.setWidth 7, check := false } (y.setWidth 7) p := by
  unfold State.bodyDone
  rw [if_neg (by rw [frameCheck_eq]; simp [hy]), State.frameDone_judged, hy]

include hs hb

theorem exec_writeByte_header (hd : s.port.decoder = .header) :
    exec (.writeByte b (parityBit b)) s = .next (s.quietLines.headerByte (s.port.frame ++ [b])) := by
  rw [exec_writeByte_good hs hb, State.takeByte, State.quietLines_port, hd]

theorem exec_writeByte_payload (hd : s.port.decoder = .payload) :
    exec (.writeByte b (parityBit b)) s = .next (s.quietLines.payloadByte (s.port.frame ++ [b])) := by
  rw [exec_writeByte_good hs hb, State.takeByte, State.quietLines_port, hd]

theorem exec_writeByte_check (hd : s.port.decoder = .check) :
    exec (.writeByte b (parityBit b)) s = .next (s.quietLines.checkByte b) := by
  rw [exec_writeByte_good hs hb, State.takeByte, State.quietLines_port, hd]

/-- The source id byte and the request byte. -/
theorem exec_writeByte_short (hd : s.port.decoder = .header) (hf : s.port.frame.length < 2) :
    exec (.writeByte b (parityBit b)) s = .next (s.filling .header (s.port.frame ++ [b])) := by
  rw [exec_writeByte_header hs hb hd, State.headerByte, if_pos (by simp; omega)]
  rfl

/-- The length byte. -/
theorem exec_writeByte_length (hd : s.port.decoder = .header) (hf : s.port.frame = [x, y]) :
    exec (.writeByte b (parityBit b)) s = .next (s.quietLines.takeLength [x, y, b]) := by
  rw [exec_writeByte_header hs hb hd, State.headerByte, hf]
  rfl

theorem exec_writeByte_tooLong (hd : s.port.decoder = .header) (hf : s.port.frame = [x, y]) (h : 128 < b.toNat) :
    exec (.writeByte b (parityBit b)) s =
      .next ((s.quietLines.endFrame y.msb .badLength []).giveAck .ack) := by
  rw [exec_writeByte_length hs hb hd hf, State.takeLength, if_pos (by exact h), frameCheck_eq]

theorem exec_writeByte_lengthTaken (hd : s.port.decoder = .header) (hf : s.port.frame = [x, y]) (hlow : 1 ≤ b.toNat)
    (hhigh : b.toNat ≤ 128) : exec (.writeByte b (parityBit b)) s = .next (s.filling .payload [x, y, b]) := by
  rw [exec_writeByte_length hs hb hd hf, State.takeLength, if_neg (by exact Nat.not_lt.2 hhigh), if_neg]
  · rfl
  · intro h0
    rw [show b = 0 from h0] at hlow
    exact absurd hlow (by decide)

theorem exec_writeByte_lengthZero (hd : s.port.decoder = .header) (hf : s.port.frame = [x, y]) :
    exec (.writeByte 0 (parityBit 0)) s = .next (s.quietLines.bodyDone [x, y, 0]) := by
  rw [exec_writeByte_length hs hb hd hf, State.takeLength, if_neg (by exact Nat.not_lt_zero 128), if_pos (by rfl)]

/-- A payload byte before the last. -/
theorem exec_writeByte_payloadMore (hd : s.port.decoder = .payload) (hf : s.port.frame = [x, y, n] ++ p)
    (h : p.length + 1 < n.toNat) :
    exec (.writeByte b (parityBit b)) s = .next (s.filling .payload ([x, y, n] ++ (p ++ [b]))) := by
  rw [exec_writeByte_payload hs hb hd, State.payloadByte, hf, List.append_assoc, if_pos]
  · rfl
  · show ([x, y, n] ++ (p ++ [b])).length < 3 + n.toNat
    simp only [List.length_append, List.length_cons, List.length_nil]
    omega

/-- The last payload byte. -/
theorem exec_writeByte_payloadLast (hd : s.port.decoder = .payload) (hf : s.port.frame = [x, y, n] ++ p)
    (h : p.length + 1 = n.toNat) :
    exec (.writeByte b (parityBit b)) s = .next (s.quietLines.bodyDone ([x, y, n] ++ (p ++ [b]))) := by
  rw [exec_writeByte_payload hs hb hd, State.payloadByte, hf, List.append_assoc, if_neg]
  show ¬ ([x, y, n] ++ (p ++ [b])).length < 3 + n.toNat
  simp only [List.length_append, List.length_cons, List.length_nil]
  omega

/-- The check byte that is the CRC of the frame. -/
theorem exec_writeByte_checked (hd : s.port.decoder = .check) (hf : s.port.frame = [x, y, n] ++ p) (hy : y.msb = true)
    (hcrc : b = crc8 s.port.frame) : exec (.writeByte b (parityBit b)) s =
      .next (s.judged { source := x.setWidth 7, check := true } (y.setWidth 7) p) := by
  have hdone : s.quietLines.frameDone s.port.frame =
      s.judged { source := x.setWidth 7, check := true } (y.setWidth 7) p := by
    rw [hf, ← hy]
    exact State.frameDone_judged x y n p s
  rw [exec_writeByte_check hs hb hd, State.checkByte, State.quietLines_port, if_pos hcrc, hdone]

end Decoder

/-- Settles O9: one rule for each place in the frame. -/
theorem writtenBytesFillTheFrame : Obligations.WrittenBytesFillTheFrame := by
  intro s b x y n p hs hb
  refine ⟨fun hd hf => ?_, fun hd hf h => ?_, fun hd hf hlow hhigh => ?_,
    fun hd hf hzero hy => ?_, fun hd hf hzero hy => ?_, fun hd hf h => ?_, fun hd hf h hy => ?_, fun hd hf h hy => ?_,
    fun hd hf hy hcrc => exec_writeByte_checked hs hb hd hf hy hcrc⟩
  · rw [exec_writeByte_short hs hb hd hf, ← hd]
    rfl
  · rw [exec_writeByte_tooLong hs hb hd hf h, State.endFrame, ← hb]
    rfl
  · rw [exec_writeByte_lengthTaken hs hb hd hf hlow hhigh]
    rfl
  · rw [hzero, exec_writeByte_lengthZero hs hb hd hf, State.bodyDone_flagged hy]
    rfl
  · rw [hzero, exec_writeByte_lengthZero hs hb hd hf, State.bodyDone_plain hy]
  · rw [exec_writeByte_payloadMore hs hb hd hf h, ← hd]
    rfl
  · rw [exec_writeByte_payloadLast hs hb hd hf h]
    exact congrArg Host.Outcome.next (State.bodyDone_flagged hy)
  · rw [exec_writeByte_payloadLast hs hb hd hf h]
    exact congrArg Host.Outcome.next (State.bodyDone_plain hy)

-- ==== A frame written byte by byte ====

/-- A byte that takes the part to `t` leaves the rest to be written to `t`. -/
theorem State.writeAll_cons {s t : State} {b : Byte} (h : exec (.writeByte b (parityBit b)) s = .next t) (l : List Byte) :
    s.writeAll (b :: l) = t.writeAll l := by
  rw [State.writeAll, h]

/-- A byte after a frame that was answered BAD_LENGTH changes nothing but the acknowledge bit (R180). -/
theorem State.writeAll_ended {s : State} {r : Reply} (hs : s.Listening) (hb : s.port.bus = .writing)
    (hd : s.port.decoder = .ended) (hr : s.port.reply = some r) (hbad : r.result = .badLength) (l : List Byte) (hl : l ≠ []) :
    s.writeAll l = s.showing .nak := by
  induction l generalizing s with
  | nil => exact absurd rfl hl
  | cons b l ih =>
    have hexcess : exec (.writeByte b (parityBit b)) s = .next (s.showing .nak) := by
      rw [exec_writeByte_good hs hb, State.takeByte_ended (s := s.quietLines) hd]
      simp only [State.excess, State.quietLines_port, hr]
      rw [if_pos hbad]
      rfl
    rw [State.writeAll_cons hexcess]
    cases l with
    | nil => rfl
    | cons c l => exact ih (s := s.showing .nak) hs hb hd hr (by simp)

section Frame

variable {s : State} {x y n : Byte} (hs : s.Listening) (hb : s.port.bus = .writing)
include hs hb

/-- The payload of a frame without a check byte: its last byte completes the frame. -/
theorem State.writeAll_plain (hy : y.msb = false) (l p : List Byte) (hl : l ≠ []) (hn : p.length + l.length = n.toNat) :
    (s.filling .payload ([x, y, n] ++ p)).writeAll l =
      s.judged { source := x.setWidth 7, check := false } (y.setWidth 7) (p ++ l) := by
  induction l generalizing p with
  | nil => exact absurd rfl hl
  | cons b l ih =>
    cases l with
    | nil =>
      have hlast := exec_writeByte_payloadLast (b := b) (s := s.filling .payload ([x, y, n] ++ p)) hs hb rfl rfl hn
      rw [State.writeAll_cons hlast]
      have hdone := State.bodyDone_plain (s := s.filling .payload ([x, y, n] ++ p)) (x := x) (n := n) (p := p ++ [b]) hy
      rw [State.filling_judged] at hdone
      exact hdone
    | cons c l =>
      have hmore := exec_writeByte_payloadMore (b := b) (s := s.filling .payload ([x, y, n] ++ p)) hs hb rfl rfl
        (by simp only [List.length_cons] at hn; omega)
      rw [State.writeAll_cons hmore]
      have hrest := ih (p ++ [b]) (by simp) (by simp only [List.length_append, List.length_cons, List.length_nil] at hn ⊢; omega)
      rw [List.append_assoc] at hrest
      exact hrest

/-- The payload of a frame with a check byte: its last byte leads to the check. -/
theorem State.writeAll_flagged (hy : y.msb = true) (l p rest : List Byte) (hl : l ≠ []) (hn : p.length + l.length = n.toNat) :
    (s.filling .payload ([x, y, n] ++ p)).writeAll (l ++ rest) =
      (s.filling .check ([x, y, n] ++ (p ++ l))).writeAll rest := by
  induction l generalizing p with
  | nil => exact absurd rfl hl
  | cons b l ih =>
    cases l with
    | nil =>
      have hlast := exec_writeByte_payloadLast (b := b) (s := s.filling .payload ([x, y, n] ++ p)) hs hb rfl rfl hn
      have hdone := State.bodyDone_flagged (s := s.filling .payload ([x, y, n] ++ p)) (x := x) (n := n) (p := p ++ [b]) hy
      rw [List.singleton_append, State.writeAll_cons (hlast.trans (congrArg Host.Outcome.next hdone))]
      rfl
    | cons c l =>
      have hmore := exec_writeByte_payloadMore (b := b) (s := s.filling .payload ([x, y, n] ++ p)) hs hb rfl rfl
        (by simp only [List.length_cons] at hn; omega)
      rw [List.cons_append (a := b), State.writeAll_cons hmore]
      have hrest := ih (p ++ [b]) (by simp) (by simp only [List.length_append, List.length_cons, List.length_nil] at hn ⊢; omega)
      rw [List.append_assoc] at hrest
      exact hrest

/-- The check byte completes the frame. -/
theorem State.writeAll_check (hy : y.msb = true) (p : List Byte) :
    (s.filling .check ([x, y, n] ++ p)).writeAll [crc8 ([x, y, n] ++ p)] =
      s.judged { source := x.setWidth 7, check := true } (y.setWidth 7) p := by
  have hcheck := exec_writeByte_checked (b := crc8 ([x, y, n] ++ p)) (s := s.filling .check ([x, y, n] ++ p)) hs hb rfl rfl hy rfl
  rw [State.filling_judged] at hcheck
  rw [State.writeAll_cons hcheck]
  rfl

variable (hd : s.port.decoder = .header) (hf : s.port.frame = [])
include hd hf

/-- The source id byte and the request byte of a frame. -/
theorem State.writeAll_header (l : List Byte) : s.writeAll (x :: y :: l) = (s.filling .header [x, y]).writeAll l := by
  have hfirst := exec_writeByte_short (b := x) hs hb hd (by simp [hf])
  rw [hf, List.nil_append] at hfirst
  rw [State.writeAll_cons hfirst,
    State.writeAll_cons (exec_writeByte_short (b := y) (s := s.filling .header [x]) hs hb rfl (by decide : 1 < 2))]
  rfl

/-- A frame of at most 128 payload bytes, written whole. -/
theorem State.writeAll_frame {p : List Byte} (hn : n.toNat = p.length) (hp : p.length ≤ 128) :
    s.writeAll (if y.msb then (x :: y :: n :: p) ++ [crc8 (x :: y :: n :: p)] else x :: y :: n :: p) =
      s.judged { source := x.setWidth 7, check := y.msb } (y.setWidth 7) p := by
  cases p with
  | nil =>
    obtain rfl : n = 0 := BitVec.eq_of_toNat_eq hn
    have hzero := exec_writeByte_lengthZero (x := x) (y := y) (s := s.filling .header [x, y]) hs hb rfl rfl
    cases hy : y.msb with
    | true =>
      have hdone := State.bodyDone_flagged (s := s.filling .header [x, y]) (x := x) (n := 0) (p := []) hy
      have hcheck := State.writeAll_check (x := x) (n := 0) hs hb hy []
      rw [if_pos rfl, List.cons_append, List.cons_append, State.writeAll_header hs hb hd hf, List.cons_append,
        State.writeAll_cons (hzero.trans (congrArg Host.Outcome.next hdone))]
      exact hcheck
    | false =>
      have hdone := State.bodyDone_plain (s := s.filling .header [x, y]) (x := x) (n := 0) (p := []) hy
      rw [State.filling_judged] at hdone
      rw [if_neg (by simp), State.writeAll_header hs hb hd hf,
        State.writeAll_cons (hzero.trans (congrArg Host.Outcome.next hdone))]
      rfl
  | cons b p =>
    have htaken := exec_writeByte_lengthTaken (x := x) (y := y) (b := n) (s := s.filling .header [x, y]) hs hb rfl rfl
      (by rw [hn]; exact Nat.succ_pos _) (by rw [hn]; exact hp)
    have hlen : ([] : List Byte).length + (b :: p).length = n.toNat := by rw [hn]; simp
    cases hy : y.msb with
    | true =>
      have hpayload := State.writeAll_flagged (x := x) (n := n) hs hb hy (b :: p) [] [crc8 (x :: y :: n :: b :: p)]
        (by simp) hlen
      rw [if_pos rfl, List.cons_append, List.cons_append, State.writeAll_header hs hb hd hf, List.cons_append,
        State.writeAll_cons htaken]
      exact hpayload.trans (State.writeAll_check (x := x) (n := n) hs hb hy (b :: p))
    | false =>
      rw [if_neg (by simp), State.writeAll_header hs hb hd hf, State.writeAll_cons htaken]
      exact State.writeAll_plain (x := x) (n := n) hs hb hy (b :: p) [] (by simp) hlen

/-- The bytes after a length byte above 128 are NAKed, and the reply to them stays (R176, R180). -/
theorem State.writeAll_long {p : List Byte} (hn : 128 < n.toNat) (hp : p ≠ []) :
    s.writeAll (x :: y :: n :: p) = (s.quietLines.endFrame y.msb .badLength []).giveAck .nak := by
  have hlength := exec_writeByte_tooLong (x := x) (y := y) (b := n) (s := s.filling .header [x, y]) hs hb rfl rfl hn
  rw [State.writeAll_header hs hb hd hf, State.writeAll_cons hlength]
  exact State.writeAll_ended (s := ((s.filling .header [x, y]).quietLines.endFrame y.msb .badLength []).giveAck .ack)
    hs rfl rfl rfl rfl p hp

end Frame

-- ==== The frame of a request (R176) ====

theorem requestByte_msb (check : Bool) (code : BitVec 7) : (requestByte check code).msb = check := by
  rw [requestByte, BitVec.msb_append]
  simp

theorem requestByte_code (check : Bool) (code : BitVec 7) : (requestByte check code).setWidth 7 = code := by
  rw [requestByte, BitVec.setWidth_append]
  simp

theorem sourceByte_source (src : SourceId) : (src.setWidth 8).setWidth 7 = src := by
  rw [BitVec.setWidth_setWidth_of_le _ (by decide)]
  simp

/-- The frame of a request, its check byte last where the check flag is set. -/
theorem frameBytes_eq (rq : Requester) (code : BitVec 7) (p : List Byte) : frameBytes rq code p =
    if (requestByte rq.check code).msb then frameBody rq code p ++ [crc8 (frameBody rq code p)] else frameBody rq code p := by
  rw [requestByte_msb]
  rfl

/-- A request command acts as the catalogue reads its frame, unless its payload is too long for a frame to be judged. -/
theorem exec_routed {c : Instr} {rq : Requester} {code : BitVec 7} {p : List Byte}
    (h : requestOf c = some (rq, code, p)) (hp : p.length ≤ 128) (s : State) :
    exec c s = .next (s.deliver rq (catalogue rq.source code p) p.length) := by
  cases c with
  | unknownRequest rq' code' p' =>
    cases h
    rfl
  | report rq' slot epoch group count records =>
    refine Laws.Routed.report rq' slot epoch group count records ?_ rq code p h s
    cases h
    rw [requestOf_report_length] at hp
    exact decide_eq_true (hp.trans (by decide))
  | enrol rq' slot lanes => exact Laws.Routed.enrol rq' slot lanes rfl rq code p h s
  | leave rq' => exact Laws.Routed.leave rq' rfl rq code p h s
  | fetchDrives rq' page => exact Laws.Routed.fetchDrives rq' page rfl rq code p h s
  | ready rq' => exact Laws.Routed.ready rq' rfl rq code p h s
  | hold rq' n => exact Laws.Routed.hold rq' n rfl rq code p h s
  | quiet rq' => exact Laws.Routed.quiet rq' rfl rq code p h s
  | status rq' => exact Laws.Routed.status rq' rfl rq code p h s
  | setLink rq' f => exact Laws.Routed.setLink rq' f rfl rq code p h s
  | dropLink rq' id => exact Laws.Routed.dropLink rq' id rfl rq code p h s
  | getLink rq' id => exact Laws.Routed.getLink rq' id rfl rq code p h s
  | clearPlan rq' => exact Laws.Routed.clearPlan rq' rfl rq code p h s
  | setClass rq' cls qreq band => exact Laws.Routed.setClass rq' cls qreq band rfl rq code p h s
  | getClass rq' cls => exact Laws.Routed.getClass rq' cls rfl rq code p h s
  | setTiming rq' f => exact Laws.Routed.setTiming rq' f rfl rq code p h s
  | getTiming rq' => exact Laws.Routed.getTiming rq' rfl rq code p h s
  | start rq' => exact Laws.Routed.start rq' rfl rq code p h s
  | abort rq' => exact Laws.Routed.abort rq' rfl rq code p h s
  | continueSweep rq' => exact Laws.Routed.continueSweep rq' rfl rq code p h s
  | clearHalt rq' => exact Laws.Routed.clearHalt rq' rfl rq code p h s
  | resetCampaign rq' => exact Laws.Routed.resetCampaign rq' rfl rq code p h s
  | getSlot rq' slot => exact Laws.Routed.getSlot rq' slot rfl rq code p h s
  | releaseSlot rq' slot => exact Laws.Routed.releaseSlot rq' slot rfl rq code p h s
  | getObservation rq' rx => exact Laws.Routed.getObservation rq' rx rfl rq code p h s
  | getHearers rq' tx => exact Laws.Routed.getHearers rq' tx rfl rq code p h s
  | getVerdict rq' id => exact Laws.Routed.getVerdict rq' id rfl rq code p h s
  | peekFinding rq' => exact Laws.Routed.peekFinding rq' rfl rq code p h s
  | releaseFinding rq' seq => exact Laws.Routed.releaseFinding rq' seq rfl rq code p h s
  | _ => exact absurd h (by simp [requestOf])

theorem exec_request_judged {c : Instr} {rq : Requester} {code : BitVec 7} {p : List Byte}
    (h : requestOf c = some (rq, code, p)) (hp : p.length ≤ 128) {s : State} (hs : s.Listening) :
    exec c s = .next (s.judged rq code p) := by
  rw [exec_routed h hp, State.deliver_frame hs hp, State.completeFrame_judged]

theorem byteLength_toNat {n : Nat} (h : n ≤ 255) : (BitVec.ofNat 8 n).toNat = n := by
  rw [BitVec.toNat_ofNat]
  omega

/-- Settles O13: the command delivers its frame whole, and the decoder takes the same frame byte by byte; neither the frame so
far nor the byte just ACKed is seen by the judgement. -/
theorem requestCommandIsItsFrame : Obligations.RequestCommandIsItsFrame := by
  intro c rq code p s tooLong h hs htooLong
  have hlong : tooLong = (s.quietLines.endFrame rq.check .badLength []).giveAck .nak := htooLong
  refine ⟨fun hp => exec_request_judged h hp hs, fun hp => ?_, fun hb hd hf => ⟨fun hp => ?_, fun hp hp' => ?_⟩⟩
  · obtain ⟨e, he⟩ := exec_request h
    rw [he, State.deliver_long hs hp, hlong]
  · have hframe := State.writeAll_frame (x := rq.source.setWidth 8) (y := requestByte rq.check code) hs hb hd hf
      (byteLength_toNat (hp.trans (by decide))) hp
    rw [requestByte_code, sourceByte_source] at hframe
    rw [frameBytes_eq]
    refine Eq.trans hframe ?_
    rw [requestByte_msb]
  · have hn : 128 < (BitVec.ofNat 8 p.length).toNat := by rwa [byteLength_toNat hp']
    have hwritten {l : List Byte} (hl : l ≠ []) := State.writeAll_long (x := rq.source.setWidth 8)
      (y := requestByte rq.check code) hs hb hd hf hn hl
    rw [requestByte_msb] at hwritten
    rw [hlong, frameBytes]
    split
    · exact hwritten (by simp)
    · exact hwritten (by rintro rfl; exact absurd hp (by decide))

end Sys2Proof.Machine
end

section
/-!
The request catalogue as a table (R184) and the order of the judgement (R181): which class and which length each request code
asks for, and that the stations are interchangeable (R190).
-/

namespace Sys2Proof.Machine

-- ==== The catalogue by its codes (R184) ====

/-- The codes that a probe sends, with STATUS. -/
def probeCodes : List Nat := [0x01, 0x02, 0x03, 0x04, 0x05, 0x06, 0x07, 0x10]

/-- The station's codes on the plan, the classes and the settings. -/
def planCodes : List Nat := [0x20, 0x21, 0x22, 0x23, 0x24, 0x25, 0x26, 0x27]

/-- The station's codes on the sweep, the roster, the tables and the queue. -/
def sweepCodes : List Nat := [0x30, 0x31, 0x32, 0x33, 0x34, 0x40, 0x41, 0x42, 0x43, 0x44, 0x48, 0x49]

theorem mem_catalogueCodes {code : BitVec 7} : code ∈ catalogueCodes ↔
    code.toNat ∈ probeCodes ∨ code.toNat ∈ planCodes ∨ code.toNat ∈ sweepCodes := by
  revert code
  decide

theorem probeCatalogue_none {n : Nat} (h : n ∉ probeCodes) (src : SourceId) (p : List Byte) :
    probeCatalogue src n p = none := by
  unfold probeCatalogue
  split
  case h_9 => rfl
  all_goals exact absurd (by decide) h

theorem planCatalogue_none {n : Nat} (h : n ∉ planCodes) (p : List Byte) : planCatalogue n p = none := by
  unfold planCatalogue
  split
  case h_9 => rfl
  all_goals exact absurd (by decide) h

theorem sweepCatalogue_none {n : Nat} (h : n ∉ sweepCodes) (p : List Byte) : sweepCatalogue n p = none := by
  unfold sweepCatalogue
  split
  case h_13 => rfl
  all_goals exact absurd (by decide) h

theorem catalogue_probe {src : SourceId} {code : BitVec 7} {p : List Byte} {e : Entry}
    (h : probeCatalogue src code.toNat p = some e) : catalogue src code p = some e := by
  unfold catalogue
  rw [h]

/-- Past the probe codes the catalogue does not depend on the source. -/
def stationCatalogue (code : BitVec 7) (p : List Byte) : Option Entry :=
  match planCatalogue code.toNat p with
  | some e => some e
  | none => sweepCatalogue code.toNat p

theorem catalogue_station {src : SourceId} {code : BitVec 7} {p : List Byte} (h : probeCatalogue src code.toNat p = none) :
    catalogue src code p = stationCatalogue code p := by
  unfold catalogue
  rw [h]
  rfl

theorem catalogue_none {code : BitVec 7} (h : code ∉ catalogueCodes) (src : SourceId) (p : List Byte) :
    catalogue src code p = none := by
  rw [mem_catalogueCodes, not_or, not_or] at h
  obtain ⟨hprobe, hplan, hsweep⟩ := h
  rw [catalogue_station (probeCatalogue_none hprobe src p), stationCatalogue, planCatalogue_none hplan,
    sweepCatalogue_none hsweep]

-- ==== The classes and the lengths of the table (R184) ====

theorem permits_probe (src : SourceId) :
    RequesterClass.probe.permits src = true ↔ 0x01 ≤ src.toNat ∧ src.toNat ≤ 0x6F := by
  simp [RequesterClass.permits, isProbe]

theorem permits_station (src : SourceId) : RequesterClass.station.permits src = true ↔ 0x70 ≤ src.toNat := by
  simp [RequesterClass.permits, isStation]

theorem permits_both (src : SourceId) : RequesterClass.both.permits src = true ↔ 0x01 ≤ src.toNat := by
  simp only [RequesterClass.permits, isProbe, isStation, Bool.or_eq_true, Bool.and_eq_true, decide_eq_true_eq]
  omega

/-- What the table says of an entry for a payload: who may send it, and which length it must have. -/
structure Entry.Tabled (src : SourceId) (p : List Byte) (may : Prop) (length : Option Nat) (e : Entry) : Prop where
  cls    : e.cls.permits src = true ↔ may
  length : e.lengthOk = true ↔ length = some p.length

section Lengths

variable {src : SourceId} {p : List Byte} {n : Nat} {e : Entry} (hl : e.lengthOk = true)
include hl

theorem exactly_lengthOk : (exactly n p e).lengthOk = true ↔ (some n : Option Nat) = some p.length := by
  simp only [exactly, hl, Bool.and_true, beq_iff_eq, Option.some.injEq]
  exact eq_comm

theorem exactly_probe (hc : e.cls = .probe) :
    (exactly n p e).Tabled src p (0x01 ≤ src.toNat ∧ src.toNat ≤ 0x6F) (some n) :=
  ⟨(Iff.of_eq (congrArg (fun k : RequesterClass => k.permits src = true) hc)).trans (permits_probe src), exactly_lengthOk hl⟩

theorem exactly_station (hc : e.cls = .station) : (exactly n p e).Tabled src p (0x70 ≤ src.toNat) (some n) :=
  ⟨(Iff.of_eq (congrArg (fun k : RequesterClass => k.permits src = true) hc)).trans (permits_station src),
    exactly_lengthOk hl⟩

end Lengths

/-- The length of a REPORT is counted by the record count byte of its header. -/
theorem reportFrom_tabled (src : SourceId) (p : List Byte) :
    (reportFrom src p).Tabled src p (0x01 ≤ src.toNat ∧ src.toNat ≤ 0x6F) (requestLength 0x05 p) where
  cls := permits_probe src
  length := by
    have hlength : requestLength 0x05 p = if 5 ≤ p.length then some (5 + 15 * (byteAt p 4).toNat) else none := rfl
    rw [hlength]
    simp only [reportFrom, Bool.and_eq_true, decide_eq_true_eq, beq_iff_eq]
    split
    · rename_i hlong
      simp only [hlong, true_and, Option.some.injEq]
      exact eq_comm
    · rename_i hshort
      simp [hshort]

theorem statusEntry_tabled (src : SourceId) (p : List Byte) :
    (exactly 0 p (statusEntry src)).Tabled src p (0x01 ≤ src.toNat) (some 0) :=
  ⟨permits_both src, exactly_lengthOk rfl⟩

theorem probeCatalogue_tabled {code : BitVec 7} (h : code.toNat ∈ probeCodes) (src : SourceId) (p : List Byte) :
    ∃ e, probeCatalogue src code.toNat p = some e ∧ e.Tabled src p (mayAsk src code) (requestLength code p) := by
  simp only [probeCodes, List.mem_cons, List.not_mem_nil, or_false] at h
  unfold mayAsk requestLength
  obtain h | h | h | h | h | h | h | h := h <;> rw [h]
  · exact ⟨_, rfl, exactly_probe rfl rfl⟩
  · exact ⟨_, rfl, exactly_probe rfl rfl⟩
  · exact ⟨_, rfl, exactly_probe rfl rfl⟩
  · exact ⟨_, rfl, exactly_probe rfl rfl⟩
  · exact ⟨_, rfl, reportFrom_tabled src p⟩
  · exact ⟨_, rfl, exactly_probe rfl rfl⟩
  · exact ⟨_, rfl, exactly_probe rfl rfl⟩
  · exact ⟨_, rfl, statusEntry_tabled src p⟩

theorem planCatalogue_tabled {code : BitVec 7} (h : code.toNat ∈ planCodes) (src : SourceId) (p : List Byte) :
    ∃ e, planCatalogue code.toNat p = some e ∧ e.Tabled src p (mayAsk src code) (requestLength code p) := by
  simp only [planCodes, List.mem_cons, List.not_mem_nil, or_false] at h
  unfold mayAsk requestLength
  obtain h | h | h | h | h | h | h | h := h <;> (rw [h]; exact ⟨_, rfl, exactly_station rfl rfl⟩)

theorem sweepCatalogue_tabled {code : BitVec 7} (h : code.toNat ∈ sweepCodes) (src : SourceId) (p : List Byte) :
    ∃ e, sweepCatalogue code.toNat p = some e ∧ e.Tabled src p (mayAsk src code) (requestLength code p) := by
  simp only [sweepCodes, List.mem_cons, List.not_mem_nil, or_false] at h
  unfold mayAsk requestLength
  obtain h | h | h | h | h | h | h | h | h | h | h | h := h <;> (rw [h]; exact ⟨_, rfl, exactly_station rfl rfl⟩)

/-- The lists of codes do not meet. -/
theorem not_mem_probeCodes_of_later {n : Nat} (h : n ∈ planCodes ∨ n ∈ sweepCodes) : n ∉ probeCodes := by
  simp only [planCodes, sweepCodes, probeCodes, List.mem_cons, List.not_mem_nil, or_false] at h ⊢
  omega

theorem not_mem_planCodes_of_sweep {n : Nat} (h : n ∈ sweepCodes) : n ∉ planCodes := by
  simp only [sweepCodes, planCodes, List.mem_cons, List.not_mem_nil, or_false] at h ⊢
  omega

/-- Every code of the catalogue has an entry with the class and the length of its row (R184). -/
theorem catalogue_tabled {code : BitVec 7} (h : code ∈ catalogueCodes) (src : SourceId) (p : List Byte) :
    ∃ e, catalogue src code p = some e ∧ e.Tabled src p (mayAsk src code) (requestLength code p) := by
  obtain hprobe | hlater := mem_catalogueCodes.1 h
  · obtain ⟨e, he, htabled⟩ := probeCatalogue_tabled hprobe src p
    exact ⟨e, catalogue_probe he, htabled⟩
  · rw [catalogue_station (probeCatalogue_none (not_mem_probeCodes_of_later hlater) src p), stationCatalogue]
    obtain hplan | hsweep := hlater
    · obtain ⟨e, he, htabled⟩ := planCatalogue_tabled hplan src p
      exact ⟨e, by rw [he], htabled⟩
    · obtain ⟨e, he, htabled⟩ := sweepCatalogue_tabled hsweep src p
      exact ⟨e, by rw [planCatalogue_none (not_mem_planCodes_of_sweep hsweep), he], htabled⟩

-- ==== The judgement (R181) ====

/-- A judgement that refuses leaves the part as it was. -/
theorem State.judged_refused {s : State} {rq : Requester} {code : BitVec 7} {p : List Byte} {r : Result}
    (h : ∀ t, judge rq.source (catalogue rq.source code p) t = refuse r t) : s.judged rq code p = s.answered rq r [] := by
  unfold State.judged
  rw [h]
  rfl

/-- Settles O14: source id, request code, source class, length. -/
theorem judgementOrder : Obligations.JudgementOrder := by
  intro s rq code p hs
  refine ⟨fun h0 => ?_, fun h0 hcode => ?_, fun h0 hcode hmay => ?_, fun h0 hcode hmay hlength => ?_, fun hp => ?_⟩
  · refine State.judged_refused fun t => ?_
    rw [h0]
    exact judge_anonymous _ t
  · refine State.judged_refused fun t => ?_
    rw [catalogue_none hcode]
    exact judge_unknown h0 t
  · obtain ⟨e, he, htabled⟩ := catalogue_tabled hcode rq.source p
    refine State.judged_refused fun t => ?_
    rw [he]
    exact judge_wrongClass (Bool.eq_false_iff.2 fun hc => hmay (htabled.cls.1 hc)) t
  · obtain ⟨e, he, htabled⟩ := catalogue_tabled hcode rq.source p
    refine State.judged_refused fun t => ?_
    rw [he]
    exact judge_badLength (htabled.cls.2 hmay) (Bool.eq_false_iff.2 fun hl => hlength (htabled.length.1 hl)) t
  · exact exec_request_judged rfl hp hs

-- ==== The stations (R190) ====

/-- What a probe code names: a request that probes alone may send, or STATUS. -/
theorem probeCatalogue_cases {n : Nat} (h : n ∈ probeCodes) (p : List Byte) :
    (∀ src, ∃ e, probeCatalogue src n p = some e ∧ e.cls = .probe) ∨
      ∀ src, probeCatalogue src n p = some (exactly 0 p (statusEntry src)) := by
  simp only [probeCodes, List.mem_cons, List.not_mem_nil, or_false] at h
  obtain rfl | rfl | rfl | rfl | rfl | rfl | rfl | rfl := h
  case inr.inr.inr.inr.inr.inr.inr => exact .inr fun _ => rfl
  all_goals exact .inl fun _ => ⟨_, rfl, rfl⟩

theorem isStation_eq {src : SourceId} (h : 0x70 ≤ src.toNat) : isStation src = true := decide_eq_true h

/-- A station may send no request of a probe. -/
theorem judge_station_probe {src : SourceId} (h : 0x70 ≤ src.toNat) {e : Entry} (hc : e.cls = .probe) (s : State) :
    judge src (some e) s = refuse .notPermitted s := by
  refine judge_wrongClass ?_ s
  rw [Bool.eq_false_iff, hc, ne_eq, permits_probe]
  omega

theorem station_ne_zero {src : SourceId} (h : 0x70 ≤ src.toNat) : src ≠ 0 := by
  rintro rfl
  exact absurd h (by decide)

/-- A class lets in every station or none. -/
theorem permits_stations {a b : SourceId} (ha : 0x70 ≤ a.toNat) (hb : 0x70 ≤ b.toNat) (k : RequesterClass) :
    k.permits a = k.permits b := by
  rw [Bool.eq_iff_iff]
  cases k with
  | probe => rw [permits_probe, permits_probe]; omega
  | station => rw [permits_station, permits_station]; omega
  | both => rw [permits_both, permits_both]; omega

/-- Two entries that differ in nothing a station sees are judged alike from any two stations. -/
theorem judge_stations {a b : SourceId} (ha : 0x70 ≤ a.toNat) (hb : 0x70 ≤ b.toNat) {e e' : Entry} (hc : e.cls = e'.cls)
    (hl : e.lengthOk = e'.lengthOk) (hbody : e.body = e'.body) (s : State) : judge a (some e) s = judge b (some e') s := by
  unfold judge
  rw [if_neg (station_ne_zero ha), if_neg (station_ne_zero hb)]
  dsimp only
  rw [hc, permits_stations ha hb, hl, hbody]

theorem judge_catalogue_stations {a b : SourceId} (ha : 0x70 ≤ a.toNat) (hb : 0x70 ≤ b.toNat) (code : BitVec 7)
    (p : List Byte) (s : State) : judge a (catalogue a code p) s = judge b (catalogue b code p) s := by
  by_cases hprobe : code.toNat ∈ probeCodes
  · obtain hclass | hstatus := probeCatalogue_cases hprobe p
    · obtain ⟨e, he, hc⟩ := hclass a
      obtain ⟨e', he', hc'⟩ := hclass b
      rw [catalogue_probe he, catalogue_probe he', judge_station_probe ha hc, judge_station_probe hb hc']
    · rw [catalogue_probe (hstatus a), catalogue_probe (hstatus b)]
      have hbody : statusBody a = statusBody b := by
        funext t
        rw [statusBody, statusBody, isStation_eq ha, isStation_eq hb]
      exact judge_stations (e := exactly 0 p (statusEntry a)) (e' := exactly 0 p (statusEntry b)) ha hb rfl rfl hbody s
  · rw [catalogue_station (probeCatalogue_none hprobe a p), catalogue_station (probeCatalogue_none hprobe b p)]
    cases stationCatalogue code p with
    | none => rw [judge_unknown (station_ne_zero ha), judge_unknown (station_ne_zero hb)]
    | some e => exact judge_stations ha hb rfl rfl rfl s

/-- Settles O16: a station's source id is read for its class alone. -/
theorem stationsAreInterchangeable : Obligations.StationsAreInterchangeable := by
  intro s a b check code p ha hb
  unfold State.judged
  rw [judge_catalogue_stations ha hb]
  rfl

end Sys2Proof.Machine
end

section
/-!
The station's reads of the plan and of the tables (R11, R13, R28, R84, R118, R122, R161), and the two settings that are stored
clamped (R12, R83).
-/

namespace Sys2Proof.Machine

-- ==== The station's requests ====

namespace State.FromStation

variable {s t : State} {rq : Requester} (h : s.FromStation rq) {r : Result} {p : List Byte}
include h

theorem exec_getLink {id : Half} (hb : getLinkBody id s.quietLines = { state := t.quietLines, result := r, payload := p }) :
    exec (.getLink rq id) s = .next (t.answered rq r p) := congrArg Host.Outcome.next (h.deliver_eq (by decide) hb)

theorem exec_getClass {cls : Byte}
    (hb : getClassBody cls s.quietLines = { state := t.quietLines, result := r, payload := p }) :
    exec (.getClass rq cls) s = .next (t.answered rq r p) := congrArg Host.Outcome.next (h.deliver_eq (by decide) hb)

theorem exec_getTiming (hb : getTimingBody s.quietLines = { state := t.quietLines, result := r, payload := p }) :
    exec (.getTiming rq) s = .next (t.answered rq r p) := congrArg Host.Outcome.next (h.deliver_eq (by decide) hb)

theorem exec_getSlot {slot : Byte}
    (hb : getSlotBody slot s.quietLines = { state := t.quietLines, result := r, payload := p }) :
    exec (.getSlot rq slot) s = .next (t.answered rq r p) := congrArg Host.Outcome.next (h.deliver_eq (by decide) hb)

theorem exec_getObservation {rx : Half}
    (hb : getObservationBody rx s.quietLines = { state := t.quietLines, result := r, payload := p }) :
    exec (.getObservation rq rx) s = .next (t.answered rq r p) := congrArg Host.Outcome.next (h.deliver_eq (by decide) hb)

theorem exec_getHearers {tx : Half}
    (hb : getHearersBody tx s.quietLines = { state := t.quietLines, result := r, payload := p }) :
    exec (.getHearers rq tx) s = .next (t.answered rq r p) := congrArg Host.Outcome.next (h.deliver_eq (by decide) hb)

theorem exec_getVerdict {id : Half}
    (hb : getVerdictBody id s.quietLines = { state := t.quietLines, result := r, payload := p }) :
    exec (.getVerdict rq id) s = .next (t.answered rq r p) := congrArg Host.Outcome.next (h.deliver_eq (by decide) hb)

theorem exec_setClass {cls qreq band : Byte}
    (hb : setClassBody cls qreq band s.quietLines = { state := t.quietLines, result := r, payload := p }) :
    exec (.setClass rq cls qreq band) s = .next (t.answered rq r p) :=
  congrArg Host.Outcome.next (h.deliver_eq (by decide) hb)

theorem exec_setTiming {f : TimingFields}
    (hb : setTimingBody f s.quietLines = { state := t.quietLines, result := r, payload := p }) :
    exec (.setTiming rq f) s = .next (t.answered rq r p) := congrArg Host.Outcome.next (h.deliver_eq (by decide) hb)

end State.FromStation

/-- An answer whose payload is spelled in another way. -/
theorem answered_spelled {o : StepOutcome} {t : State} {rq : Requester} {r : Result} {p p' : List Byte}
    (h : o = .next (t.answered rq r p)) (hp : p = p') : o = .next (t.answered rq r p') := hp ▸ h

-- ==== The bytes of a number (R189) ====

theorem be_four (n : Nat) : be 4 n = [byte (n / 2 ^ 24), byte (n / 2 ^ 16), byte (n / 2 ^ 8), byte n] := by
  simp [be, byte]

theorem be_five (n : Nat) :
    be 5 n = [byte (n / 2 ^ 32), byte (n / 2 ^ 24), byte (n / 2 ^ 16), byte (n / 2 ^ 8), byte n] := by
  simp [be, byte]

theorem be_zero (k : Nat) : be k 0 = List.replicate k 0 := by
  induction k with
  | zero => rfl
  | succ k ih =>
    rw [be, ih, Nat.zero_div]
    rfl

theorem optionalBytes_none (k : Nat) : optionalBytes k none = 0 :: List.replicate k 0 := by
  rw [optionalBytes, be_zero]

theorem signed_eq (z : Int) : signed z = be 4 (z % 2 ^ 32).toNat := by
  rw [signed, BitVec.toNat_ofInt]
  rfl

/-- The three notes are three bits of a byte. -/
theorem Notes.byte_eq (n : Notes) : n.byte =
    Machine.byte ((if n.reversed then 1 else 0) + (if n.invertedOk then 2 else 0) + (if n.saturated then 4 else 0)) := by
  obtain ⟨reversed, invertedOk, saturated⟩ := n
  revert reversed invertedOk saturated
  decide

-- ==== GET LINK, GET CLASS, GET TIMING (R11, R13, R84) ====

section Reads

variable {s : State}

theorem getLinkBody_range {id : Half} (h : 511 < id.toNat) : getLinkBody id s = refuse .range s :=
  if_neg (Nat.not_le.2 h)

theorem getLinkBody_empty {id : Half} (h : id.toNat ≤ 511) (hl : s.links.get id.toNat = none) :
    getLinkBody id s = refuse .empty s := by
  rw [getLinkBody, if_pos h, hl]

theorem getLinkBody_used {id : Half} {l : Link} (h : id.toNat ≤ 511) (hl : s.links.get id.toNat = some l) :
    getLinkBody id s = accept (l.payload id.toNat) s := by
  rw [getLinkBody, if_pos h, hl]

theorem classOf_outside {cls : Byte} (h : 3 < cls.toNat) : classOf cls = none := by
  rw [← Option.not_isSome_iff_eq_none, classOf_isSome]
  omega

theorem getClassBody_named {cls : Byte} {k : LossClass} (h : classOf cls = some k) :
    getClassBody cls s = accept ((s.classes.get k).payload k) s := by
  rw [getClassBody, h]

theorem getClassBody_range {cls : Byte} (h : 3 < cls.toNat) : getClassBody cls s = refuse .range s := by
  rw [getClassBody, classOf_outside h]

end Reads

theorem ClassRecord.payload_eq (k : LossClass) (r : ClassRecord) :
    r.payload k = [byte k.code, byte r.qreq, byte r.band] := by
  rw [ClassRecord.payload, be_one, be_one, be_one]
  rfl

theorem Timing.payload_eq (t : Timing) : t.payload =
    twoBytes t.period ++ [byte t.arming, byte t.window] ++ twoBytes t.measure ++
      [byte t.allowance, (if t.stopArming then 1 else 0), (if t.stopSettle then 1 else 0),
        (if t.stopMeasure then 1 else 0)] := by
  simp only [Timing.payload, be_two, be_one, yesNo, List.append_assoc, List.cons_append, List.nil_append]

/-- Settles O20: a read is an answer with the record and no change. -/
theorem planReads : Obligations.PlanReads := by
  intro s rq h
  have cls (b : Byte) (k : LossClass) (hk : classOf b = some k) :
      exec (.getClass rq b) s = .next (s.answered rq .ok ((s.classes.get k).payload k)) :=
    h.exec_getClass (getClassBody_named (s := s.quietLines) hk)
  refine ⟨fun id hid => h.exec_getLink (getLinkBody_range (s := s.quietLines) hid),
    fun id hid hl => h.exec_getLink (getLinkBody_empty (s := s.quietLines) hid hl),
    fun id l hid hl => answered_spelled (h.exec_getLink (getLinkBody_used (s := s.quietLines) hid hl)) ?_,
    fun b hb => h.exec_getClass (getClassBody_range (s := s.quietLines) hb),
    answered_spelled (cls 0 .a rfl) (ClassRecord.payload_eq _ _),
    answered_spelled (cls 1 .b rfl) (ClassRecord.payload_eq _ _),
    answered_spelled (cls 2 .c rfl) (ClassRecord.payload_eq _ _),
    answered_spelled (cls 3 .d rfl) (ClassRecord.payload_eq _ _),
    answered_spelled (h.exec_getTiming rfl) (Timing.payload_eq _)⟩
  simp only [Link.payload, be_two, be_one, yesNo, List.append_assoc, List.cons_append, List.nil_append]
  cases l.budget with
  | none => cases l.lossClass <;> rfl
  | some b =>
    rw [optionalBytes, be_one]
    cases l.lossClass <;> rfl

-- ==== GET SLOT, GET OBSERVATION, GET HEARERS, GET VERDICT (R28, R118, R122, R161) ====

section TableReads

variable {s : State}

theorem getSlotBody_range {slot : Byte} (h : 23 < slot.toNat) : getSlotBody slot s = refuse .range s :=
  if_neg (Nat.not_le.2 h)

theorem getSlotBody_read {slot : Byte} (h : slot.toNat ≤ 23) :
    getSlotBody slot s = accept (s.slots.get slot.toNat).payload s := if_pos h

theorem getObservationBody_range {rx : Half} (h : 767 < rx.toNat) : getObservationBody rx s = refuse .range s :=
  if_neg (Nat.not_le.2 h)

theorem getObservationBody_read {rx : Half} (h : rx.toNat ≤ 767) :
    getObservationBody rx s = accept (s.observations.get rx.toNat).payload s := if_pos h

theorem getHearersBody_range {tx : Half} (h : 767 < tx.toNat) : getHearersBody tx s = refuse .range s :=
  if_neg (Nat.not_le.2 h)

theorem getHearersBody_read {tx : Half} (h : tx.toNat ≤ 767) :
    getHearersBody tx s = accept (s.hearing.get tx.toNat).payload s := if_pos h

theorem getVerdictBody_range {id : Half} (h : 511 < id.toNat) : getVerdictBody id s = refuse .range s :=
  if_neg (Nat.not_le.2 h)

theorem getVerdictBody_read {id : Half} (h : id.toNat ≤ 511) :
    getVerdictBody id s = accept (s.verdicts.get id.toNat).payload s := if_pos h

end TableReads

/-- Settles O21: a read is an answer with the record and no change, and the encodings are those of R189. -/
theorem tableReads : Obligations.TableReads := by
  intro s rq h
  refine ⟨fun i hi => h.exec_getSlot (getSlotBody_range (s := s.quietLines) hi), fun i r hi hr => ?_,
    fun e he => h.exec_getObservation (getObservationBody_range (s := s.quietLines) he), fun e o he ho => ?_,
    fun e he => h.exec_getHearers (getHearersBody_range (s := s.quietLines) he), fun e x he hx => ?_,
    fun id hid => h.exec_getVerdict (getVerdictBody_range (s := s.quietLines) hid), fun id v hid hv => ?_,
    rfl, rfl, rfl, rfl, rfl, rfl, fun n => ⟨be_one n, be_two n, be_four n, be_five n⟩, optionalBytes_none, fun _ _ => rfl,
    fun z _ _ => signed_eq z⟩
  · have hread := h.exec_getSlot (t := s) (getSlotBody_read (s := s.quietLines) hi)
    rw [State.quietLines_slots, hr] at hread
    refine answered_spelled hread ?_
    simp only [SlotRecord.payload, be_one, List.append_assoc, List.cons_append, List.nil_append]
    rfl
  · have hread := h.exec_getObservation (t := s) (getObservationBody_read (s := s.quietLines) he)
    rw [State.quietLines_observations, ho] at hread
    refine answered_spelled hread ?_
    simp only [Observation.payload, be_one, be_two, List.append_assoc]
    cases o.planned with
    | none => rfl
    | some p => simp only [plannedBytes, be_one, be_two, List.cons_append, List.nil_append, List.append_assoc]
  · have hread := h.exec_getHearers (t := s) (getHearersBody_read (s := s.quietLines) he)
    rw [State.quietLines_hearing, hx] at hread
    refine answered_spelled hread ?_
    simp only [Hearers.payload, hearerBytes, be_one, be_two]
  · have hread := h.exec_getVerdict (t := s) (getVerdictBody_read (s := s.quietLines) hid)
    rw [State.quietLines_verdicts, hv] at hread
    refine answered_spelled hread ?_
    simp only [VerdictRecord.payload, be_one, Notes.byte_eq, List.append_assoc, List.cons_append, List.nil_append]

-- ==== SET CLASS and SET TIMING (R12, R83) ====

section Settings

variable {s : State}

theorem setClassBody_locked (h : ¬ s.Open) (cls qreq band : Byte) : setClassBody cls qreq band s = refuse .busy s := by
  rw [setClassBody, State.not_open_iff_atRest.1 h]
  rfl

theorem setClassBody_range (h : s.Open) {cls : Byte} (hcls : 3 < cls.toNat) (qreq band : Byte) :
    setClassBody cls qreq band s = refuse .range s := by
  rw [setClassBody, if_pos (State.open_iff_atRest.1 h), classOf_outside hcls]

theorem setClassBody_stored (h : s.Open) {cls : Byte} {k : LossClass} (hcls : cls.toNat = k.code) (qreq band : Byte) :
    setClassBody cls qreq band s = s.storeClass k qreq band := by
  rw [setClassBody, if_pos (State.open_iff_atRest.1 h), classOf_eq_some.2 hcls]

theorem setTimingBody_locked (h : ¬ s.Open) (f : TimingFields) : setTimingBody f s = refuse .busy s := by
  rw [setTimingBody, State.not_open_iff_atRest.1 h]
  rfl

theorem setTimingBody_stored (h : s.Open) (f : TimingFields) : setTimingBody f s =
    { state := { s with timing := timingOf f }
      result := if timingInRange f then .ok else .clamped
      payload := (timingOf f).payload } := by
  rw [setTimingBody, if_pos (State.open_iff_atRest.1 h)]

end Settings

/-- A class record is stored as it is sent exactly when both its values are in range (R12). -/
theorem clampClass_eq_iff (qreq band : Byte) :
    ((clampClass qreq band).qreq = qreq.toNat ∧ (clampClass qreq band).band = band.toNat) ↔
      qreq.toNat ≤ 46 ∧ band.toNat ≤ 7 := by
  simp [clampClass]

theorem timingInRange_iff (f : TimingFields) : timingInRange f = true ↔
    (timingOf f).period = f.period.toNat ∧ (timingOf f).arming = f.arming.toNat ∧ (timingOf f).window = f.window.toNat ∧
      (timingOf f).measure = f.measure.toNat ∧ (timingOf f).allowance = f.allowance.toNat := by
  simp [timingInRange, and_assoc]

/-- The allowance has no lower limit (R83). -/
theorem timingOf_eq (f : TimingFields) : timingOf f =
    { period := max 10 (min f.period.toNat 2000), arming := max 1 (min f.arming.toNat 255),
      window := max 4 (min f.window.toNat 255), measure := max 1 (min f.measure.toNat 4096),
      allowance := min f.allowance.toNat 63, stopArming := f.stops.getLsbD 0, stopSettle := f.stops.getLsbD 1,
      stopMeasure := f.stops.getLsbD 2 } := by
  simp [timingOf, clampTo]

theorem byte_toNat (b : Byte) : byte b.toNat = b := by
  rw [byte, BitVec.ofNat_toNat, BitVec.setWidth_eq]

/-- Settles O22: the value stored is the clamped one, and the result compares it with the value sent. -/
theorem settingsAreClamped : Obligations.SettingsAreClamped := by
  intro s rq h
  refine ⟨fun cls q b hopen => h.exec_setClass (setClassBody_locked (s := s.quietLines) hopen cls q b),
    fun cls q b hopen hcls => h.exec_setClass (setClassBody_range (s := s.quietLines) hopen hcls q b),
    fun cls q b k hopen hcls => ?_, fun f hopen => h.exec_setTiming (setTimingBody_locked (s := s.quietLines) hopen f),
    fun f hopen => ⟨_, (timingOf_eq f).symm, ?_⟩⟩
  · have hstored := h.exec_setClass (t := { s with classes := s.classes.set k (clampClass q b) })
      (setClassBody_stored (s := s.quietLines) hopen hcls q b)
    rw [ClassRecord.payload_eq, ← hcls, byte_toNat] at hstored
    simp only [clampClass_eq_iff] at hstored
    exact hstored
  · have hstored := h.exec_setTiming (t := { s with timing := timingOf f })
      (setTimingBody_stored (s := s.quietLines) hopen f)
    rw [Timing.payload_eq] at hstored
    simp only [timingInRange_iff] at hstored
    exact hstored

end Sys2Proof.Machine
end

section
/-!
ENROL from another source (R24), the drive list and its pages (R45–R47), CONTINUE and CLEAR HALT (R70, R77), and what every expiry
of the epoch timer does (R57, R58).
-/

namespace Sys2Proof.Machine

-- ==== ENROL from another source (R24, R72) ====

theorem SlotRecord.contested_eq (r : SlotRecord) (src : SourceId) : r.contested src =
    { r with state := .conflict, claimant := some src, participating := false,
             lostByConflict := if r.state = .active ∨ r.state = .lost then true else r.lostByConflict } := by
  unfold SlotRecord.contested
  by_cases h : r.state = .active ∨ r.state = .lost
  · rw [if_pos h]
    obtain h | h := h <;> simp [h]
  · rw [if_neg h]
    obtain ⟨hactive, hlost⟩ := not_or.1 h
    rw [beq_eq_false_iff_ne.2 hactive, beq_eq_false_iff_ne.2 hlost, Bool.or_false, Bool.or_false]

theorem enrolNamed_other {src : SourceId} {slot lanes : Nat} {r : SlotRecord} {s : State} (h : r.state ≠ .empty)
    (ha : r.source ≠ some src) : enrolNamed src slot lanes r s = enrolOther src slot r s :=
  (if_neg h).trans (if_neg ha)

theorem enrolOther_waiting {src : SourceId} {slot : Nat} {r : SlotRecord} {s : State}
    (h : r.state = .enrolled ∨ r.state = .ready ∨ r.state = .excluded ∨ r.state = .lost) :
    enrolOther src slot r s = { state := s.setSlot slot (r.contested src), result := .conflict } := by
  obtain h | h | h | h := h <;> simp [enrolOther, h]

theorem enrolOther_active {src : SourceId} {slot : Nat} {r : SlotRecord} {s : State} (h : r.state = .active) :
    enrolOther src slot r s =
      { state := (s.setSlot slot (r.contested src)).activeFell, result := .conflict } := by
  simp [enrolOther, h]

/-- Settles O25: with no other slot holding the source the slot's own state decides, and the fall of the ACTIVE count aborts
only where R72 says so. -/
theorem enrolFromAnotherSource : Obligations.EnrolFromAnotherSource := by
  intro s rq slot lanes r contested hrq hslot hlow hhigh hfree hget ha hcontested
  rw [← SlotRecord.contested_eq r rq.source] at hcontested
  have hnamed : enrolBody rq.source slot lanes s.quietLines =
      enrolNamed rq.source slot.toNat lanes.toNat r s.quietLines := by
    rw [enrolBody_named hslot hlow hhigh (s := s.quietLines) hfree, State.quietLines_slots, hget]
  have other (he : r.state ≠ .empty) :
      enrolBody rq.source slot lanes s.quietLines = enrolOther rq.source slot.toNat r s.quietLines :=
    hnamed.trans (enrolNamed_other he ha)
  have active (hr : r.state = .active) : enrolBody rq.source slot lanes s.quietLines =
      { state := contested.quietLines.activeFell, result := .conflict } := by
    rw [other (by simp [hr]), enrolOther_active hr, hcontested]
    rfl
  refine ⟨fun hr => ?_, fun hr hstay => ?_, fun hr hnone habort => ?_, fun hr => ?_⟩
  · rw [hcontested]
    exact hrq.exec_enrol ((other (by obtain hr | hr | hr | hr := hr <;> simp [hr])).trans (enrolOther_waiting hr))
  · have hbody := active hr
    rw [State.activeFell_eq_self (s := contested.quietLines) hstay] at hbody
    exact hrq.exec_enrol hbody
  · have hbody := active hr
    rw [State.activeFell_eq_abort (s := contested.quietLines) hnone habort, State.abortSweep_quietLines] at hbody
    exact hrq.exec_enrol hbody
  · exact hrq.exec_enrol (hnamed.trans (enrolNamed_conflict hr))

-- ==== The drive list (R15, R45–R47) ====

theorem coveringTx_isSome {s : State} {e : Nat} :
    (coveringTx s.usedLinks e).isSome = true ↔ ∃ k l, s.links.get k = some l ∧ l.coversTx e = true := by
  rw [coveringTx, Option.isSome_map, List.find?_isSome]
  constructor
  · rintro ⟨⟨k, l⟩, hmem, hcovers⟩
    exact ⟨k, l, usedLinks_mem.1 hmem, hcovers⟩
  · rintro ⟨k, l, hl, hcovers⟩
    exact ⟨(k, l), usedLinks_mem.2 hl, hcovers⟩

theorem State.mem_plannedTxLanes {s : State} {slot lane : Nat} : lane ∈ s.plannedTxLanes slot ↔
    lane < 32 ∧ ∃ k l, s.links.get k = some l ∧ l.coversTx (slot * 32 + lane) = true := by
  rw [State.plannedTxLanes, List.mem_filter, List.mem_range, coveringTx_isSome]
  rfl

theorem State.plannedTxLanes_sorted (s : State) (slot : Nat) : (s.plannedTxLanes slot).Pairwise (· < ·) :=
  List.Pairwise.filter _ List.pairwise_lt_range

/-- The four bytes of a word are those of its number (R187, R189). -/
theorem wordBytes_eq (w : Word) : wordBytes w = be 4 w.toNat := by
  have hw := w.isLt
  have field (start : Nat) : (w.extractLsb' start 16).toNat = w.toNat / 2 ^ start % 2 ^ 16 := field_toNat w start 16
  have low (h : Half) : h.extractLsb' 0 8 = byte h.toNat := by
    apply BitVec.eq_of_toNat_eq
    simp [byte]
  have high (h : Half) : h.extractLsb' 8 8 = byte (h.toNat / 2 ^ 8) := by
    apply BitVec.eq_of_toNat_eq
    simp [byte, Nat.shiftRight_eq_div_pow]
  have same {m n : Nat} (h : m % 256 = n % 256) : byte m = byte n := by
    apply BitVec.eq_of_toNat_eq
    simpa [byte] using h
  rw [wordBytes, halfBytes, halfBytes, low, low, high, high, field, field, be_four]
  simp only [List.cons_append, List.nil_append, List.cons.injEq, and_true]
  exact ⟨same (by omega), same (by omega), same (by omega), same (by omega)⟩

theorem assignmentBytes_eq (generation slot lane : Nat) :
    assignmentBytes generation slot lane = byte lane :: be 4 (tag (slot * 32 + lane) generation).toNat := by
  rw [assignmentBytes, be_one, wordBytes_eq]
  rfl

theorem State.drivePage_eq (s : State) (slot page : Nat) : s.drivePage slot page =
    [byte s.generation, byte page, (if page + 1 < s.pageCount slot then 1 else 0),
      byte ((s.slots.get slot).lanes.getD 0), byte (s.pageLanes slot page).length] ++
    (s.pageLanes slot page).flatMap (fun lane => byte lane :: be 4 (tag (slot * 32 + lane) s.generation).toNat) := by
  rw [State.drivePage, be_one, be_one, be_one, be_one, show assignmentBytes s.generation slot = _ from
    funext (assignmentBytes_eq s.generation slot)]
  simp [yesNo, SlotRecord.laneCount]

/-- A page holds at most 16 assignments of five bytes. -/
theorem State.drivePage_length (s : State) (slot page : Nat) : (s.drivePage slot page).length ≤ 85 := by
  have hlanes : (s.pageLanes slot page).length ≤ 16 := List.length_take_le _ _
  have hbytes (l : List Nat) :
      (l.flatMap fun lane => byte lane :: be 4 (tag (slot * 32 + lane) s.generation).toNat).length = 5 * l.length := by
    induction l with
    | nil => rfl
    | cons a l ih =>
      rw [List.flatMap_cons, List.length_append, ih, be_four]
      simp only [List.length_cons, List.length_nil]
      omega
  rw [State.drivePage_eq, List.length_append, hbytes]
  simp only [List.length_cons, List.length_nil]
  omega

/-- Settles O29: the drive list is a filter of the lanes in order, and a page is at most 16 of them. -/
theorem driveListPages : Obligations.DriveListPages := by
  intro s slot
  refine ⟨fun lane => State.mem_plannedTxLanes, s.plannedTxLanes_sorted slot, fun page lanes _ hlanes => ⟨?_, ?_⟩⟩
  · rw [hlanes]
    exact s.drivePage_eq slot page
  · exact s.drivePage_length slot page

-- ==== CONTINUE and CLEAR HALT (R70, R77) ====

section Requests

variable {s t : State} {rq : Requester} (h : s.FromStation rq) {r : Result} {p : List Byte}
include h

theorem State.FromStation.exec_continue
    (hb : continueBody s.quietLines = { state := t.quietLines, result := r, payload := p }) :
    exec (.continueSweep rq) s = .next (t.answered rq r p) := congrArg Host.Outcome.next (h.deliver_eq (by decide) hb)

theorem State.FromStation.exec_clearHalt
    (hb : clearHaltBody s.quietLines = { state := t.quietLines, result := r, payload := p }) :
    exec (.clearHalt rq) s = .next (t.answered rq r p) := congrArg Host.Outcome.next (h.deliver_eq (by decide) hb)

end Requests

section Bodies

variable {s : State}

theorem continueBody_notStopped (h : ∀ p, s.seq.sweep ≠ .stopped p) : continueBody s = refuse .notNow s := by
  unfold continueBody
  cases hw : s.seq.sweep with
  | stopped p => exact absurd hw (h p)
  | _ => rfl

theorem continueBody_settle (h : s.seq.sweep = .stopped .settle) : continueBody s = accept [] (s.resume .settle) := by
  rw [continueBody, h]

theorem continueBody_measure (h : s.seq.sweep = .stopped .measure) : continueBody s = accept [] (s.resume .measure) := by
  rw [continueBody, h]

theorem continueBody_reduce (h : s.seq.sweep = .stopped .reduce) :
    continueBody s = accept [] (s.resume .reduce).startQuietCall := by
  rw [continueBody, h]

theorem clearHaltBody_notHalted (h : ∀ o, s.seq.sweep ≠ .halted o) : clearHaltBody s = refuse .notNow s := by
  unfold clearHaltBody
  cases hw : s.seq.sweep with
  | halted o => exact absurd hw (h o)
  | _ => rfl

theorem clearHaltBody_halted {o : HaltOrigin} (h : s.seq.sweep = .halted o) :
    clearHaltBody s = accept [] (s.answerQuiet.leaveHalt o) := by
  rw [clearHaltBody, h]

theorem State.leaveHalt_complete (h : s.seq.evaluation = .complete) : s.leaveHalt .reduce = s.enterTerminal .done :=
  if_pos h

theorem State.leaveHalt_goesOn (h : s.seq.evaluation ≠ .complete) : s.leaveHalt .reduce =
    { s with seq := { s.seq with sweep := .reduce, timer := .running s.timing.period } } := if_neg h

end Bodies

theorem map_settleQuiet {n : Nat} (t : Table SlotRecord n) :
    t.map SlotRecord.settleQuiet = t.map fun r =>
      if r.quietOwed = true ∧ r.quietAcked = false then { r with quietAcked := true } else r :=
  congrArg (Table.map · t) (funext fun _ => if_congr SlotRecord.owing_iff rfl rfl)

/-- Settles O35: CONTINUE resumes by the resume phase, and CLEAR HALT leaves by the halt origin. -/
theorem continueAndClearHalt : Obligations.ContinueAndClearHalt := by
  intro s rq called acked h hcalled hacked
  obtain rfl : called = s.slots.map SlotRecord.callQuiet := hcalled.trans (map_callQuiet s.slots).symm
  obtain rfl : acked = s.slots.map SlotRecord.settleQuiet := hacked.trans (map_settleQuiet s.slots).symm
  refine ⟨fun hw => h.exec_continue (continueBody_notStopped (s := s.quietLines) hw),
    fun hw => h.exec_continue (continueBody_settle (s := s.quietLines) hw),
    fun hw => h.exec_continue (continueBody_measure (s := s.quietLines) hw),
    fun hw => h.exec_continue (continueBody_reduce (s := s.quietLines) hw),
    fun hw => h.exec_clearHalt (clearHaltBody_notHalted (s := s.quietLines) hw), fun t ht => ?_, fun hw he => ?_⟩
  · obtain ⟨hw, rfl⟩ | ⟨hw, he, rfl⟩ := ht
    · exact h.exec_clearHalt (clearHaltBody_halted (s := s.quietLines) hw)
    · have hbody := clearHaltBody_halted (s := s.quietLines) hw
      rw [State.leaveHalt_complete (s := s.quietLines.answerQuiet) he] at hbody
      exact h.exec_clearHalt hbody
  · have hbody := clearHaltBody_halted (s := s.quietLines) hw
    rw [State.leaveHalt_goesOn (s := s.quietLines.answerQuiet) he] at hbody
    exact h.exec_clearHalt hbody

-- ==== An expiry of the epoch timer (R56–R58, R100) ====

/-- The timer of a sweep state that a marker enters (R56). -/
def SweepState.entryTimer (period : Nat) : SweepState → EpochTimer
  | .stopped _ => .suspended
  | .halted _ => .haltedOff
  | .done => .haltedOff
  | .aborted => .haltedOff
  | .idle => .running period
  | .arming => .running period
  | .settle => .running period
  | .measure => .running period
  | .reduce => .running period
  | .aborting => .running period

/-- What the phase test does to the timer and the windows: it stays in its sweep state with the timer running, or enters another
with the timer of that. -/
structure State.MovesOn (period : Nat) (s t : State) : Prop where
  epoch   : t.seq.epoch = s.seq.epoch
  timer   : t.seq.timer = if t.seq.sweep = s.seq.sweep then .running period else t.seq.sweep.entryTimer period
  windows : t.windows = s.windows ∨ t.windows = Table.replicate _ {}

section MovesOn

variable {s t : State} {period : Nat}

theorem State.MovesOn.of_stays (hrun : s.seq.timer = .running period) (he : t.seq.epoch = s.seq.epoch)
    (ht : t.seq.timer = s.seq.timer) (hw : t.seq.sweep = s.seq.sweep) (hr : t.windows = s.windows) : s.MovesOn period t :=
  ⟨he, by rw [if_pos hw, ht, hrun], .inl hr⟩

theorem State.MovesOn.of_enters (he : t.seq.epoch = s.seq.epoch) (hw : t.seq.sweep ≠ s.seq.sweep)
    (ht : t.seq.timer = t.seq.sweep.entryTimer period) (hr : t.windows = s.windows ∨ t.windows = Table.replicate _ {}) :
    s.MovesOn period t :=
  ⟨he, by rw [if_neg hw, ht], hr⟩

variable (hrun : s.seq.timer = .running period)
include hrun

theorem State.testArming_movesOn (hw : s.seq.sweep = .arming) : s.MovesOn period s.testArming := by
  unfold State.testArming
  split
  · split
    · unfold State.armed
      dsimp only
      split
      · exact .of_enters rfl (by rw [hw]; simp [State.enterStopped]) rfl (.inl rfl)
      · exact .of_enters rfl (by rw [hw]; simp) hrun (.inl rfl)
    · exact .of_enters rfl (by rw [hw]; simp [State.enterTerminal]) rfl (.inr rfl)
  · exact .of_stays hrun rfl rfl rfl rfl

theorem State.testSettle_movesOn (hw : s.seq.sweep = .settle) : s.MovesOn period s.testSettle := by
  unfold State.testSettle
  split
  · unfold State.endSettle
    dsimp only
    split
    · exact .of_enters rfl (by rw [hw]; simp [State.enterStopped]) rfl (.inl rfl)
    · exact .of_enters rfl (by rw [hw]; simp) hrun (.inl rfl)
  · exact .of_stays hrun rfl rfl rfl rfl

theorem State.testMeasure_movesOn (hw : s.seq.sweep = .measure) : s.MovesOn period s.testMeasure := by
  unfold State.testMeasure
  split
  · unfold State.endMeasure
    dsimp only
    split
    · exact .of_enters rfl (by rw [hw]; simp [State.enterStopped]) rfl (.inl rfl)
    · exact .of_enters rfl (by rw [hw]; simp) hrun (.inl rfl)
  · exact .of_stays hrun rfl rfl rfl rfl

/-- The ALL_LOST abort at a marker leaves the timer running (R71, R72). -/
theorem State.allLost_movesOn (hw : s.seq.sweep = .settle ∨ s.seq.sweep = .measure) : s.MovesOn period s.allLost := by
  have habort : s.allLost = s.abortRunning .allLost := by
    unfold State.allLost
    rw [if_pos (by obtain hw | hw := hw <;> rw [hw] <;> rfl)]
    exact State.abortSweep_running _ hw
  rw [habort]
  exact .of_enters rfl (by obtain hw | hw := hw <;> (rw [hw]; simp [State.abortRunning, State.enterAborting])) hrun (.inl rfl)

theorem State.testDeadline_movesOn {o : HaltOrigin} (hw : s.seq.sweep = .reduce ∨ s.seq.sweep = .aborting) :
    s.MovesOn period (s.testDeadline o) := by
  unfold State.testDeadline
  split
  · exact .of_enters rfl (by obtain hw | hw := hw <;> (rw [hw]; simp [State.enterHalted])) rfl (.inl rfl)
  · exact .of_stays hrun rfl rfl rfl rfl

theorem State.phaseTest_movesOn (fell : Bool) : s.MovesOn period (s.phaseTest fell) := by
  unfold State.phaseTest
  cases hw : s.seq.sweep with
  | arming => exact State.testArming_movesOn hrun hw
  | settle =>
    dsimp only
    split
    · exact State.allLost_movesOn hrun (.inl hw)
    · exact State.testSettle_movesOn hrun hw
  | measure =>
    dsimp only
    split
    · exact State.allLost_movesOn hrun (.inr hw)
    · exact State.testMeasure_movesOn hrun hw
  | reduce =>
    obtain ⟨cursor, v, hpass⟩ := s.testReduce_evaluation
    dsimp only
    rw [hpass]
    have hmoves := State.testDeadline_movesOn (s := { s with cursor := cursor, seq := { s.seq with evaluation := v } })
      (o := .reduce) hrun (.inl hw)
    exact ⟨hmoves.epoch, hmoves.timer, hmoves.windows⟩
  | aborting => exact State.testDeadline_movesOn hrun (.inr hw)
  | _ => exact .of_stays hrun rfl rfl rfl rfl

end MovesOn

theorem exec_epochTimerExpiry_running {s : State} {p : Nat} (hrun : s.seq.timer = .running p) :
    exec .epochTimerExpiry s = .next s.quietLines.expire.driveAttn := by
  simp only [exec, execEpochTimerExpiry, State.quietLines_seq, hrun]

theorem exec_epochTimerExpiry_notRunning {s : State} (h : ∀ p, s.seq.timer ≠ .running p) :
    exec .epochTimerExpiry s = .next (s.showing .none) := by
  simp only [exec, execEpochTimerExpiry, State.quietLines_seq]
  cases ht : s.seq.timer with
  | running p => exact absurd ht (h p)
  | _ => rfl

theorem exec_epochTimerExpiry_reload {s : State} {p : Nat} (hrun : s.seq.timer = .running p) (hhold : 0 < s.seq.hold) :
    exec .epochTimerExpiry s = .next (State.driven false
      { s with seq := { s.seq with hold := s.seq.hold - 1, timer := .running s.timing.period } }) := by
  rw [exec_epochTimerExpiry_running hrun, State.expire, if_pos (by exact hhold)]
  rfl

theorem exec_epochTimerExpiry_last {s : State} {p : Nat} (hrun : s.seq.timer = .running p) (hhold : s.seq.hold = 0)
    (hlast : s.seq.epoch = 65535) :
    exec .epochTimerExpiry s = .next (State.driven false { s with seq := { s.seq with timer := .haltedOff } }) := by
  rw [exec_epochTimerExpiry_running hrun, State.expire, if_neg (by simp [hhold]), if_pos (by exact hlast)]
  rfl

/-- Settles O38: a reload, the end of the epoch numbers, or a marker; a marker's phase test says where the timer goes. -/
theorem timerExpiry : Obligations.TimerExpiry := by
  intro s
  refine ⟨fun p hrun hhold => exec_epochTimerExpiry_reload hrun hhold,
    fun p hrun hhold hlast => exec_epochTimerExpiry_last hrun hhold hlast, fun p hrun hhold hepoch => ?_,
    exec_epochTimerExpiry_notRunning⟩
  have hmarker := exec_epochTimerExpiry_marker hrun hhold hepoch rfl
  generalize (decide (0 < s.activeCount) && s.pulse.bookkeep.emptyWindows.activeCount == 0) = fell at hmarker
  have hmoves := State.phaseTest_movesOn (s := s.pulse.bookkeep.emptyWindows) (period := s.timing.period) (by simp) fell
  refine ⟨_, hmarker, ?_, rfl, ?_, ?_, rfl, ?_, ?_, ?_, ?_, ?_, ?_, ?_, ?_, ?_⟩
  · exact hmoves.epoch.trans (by simp)
  · have htimer := hmoves.timer
    rw [show s.pulse.bookkeep.emptyWindows.seq.sweep = s.seq.sweep by simp] at htimer
    refine htimer.trans (if_congr Iff.rfl rfl ?_)
    generalize (s.pulse.bookkeep.emptyWindows).phaseTest fell = t
    rw [show (State.driven true t).seq = t.seq from rfl]
    cases t.seq.sweep <;> rfl
  · intro i
    have hempty : ((s.pulse.bookkeep.emptyWindows).phaseTest fell).windows = Table.replicate _ {} :=
      hmoves.windows.elim id id
    show (((s.pulse.bookkeep.emptyWindows).phaseTest fell).windows).get i = _
    rw [hempty]
    exact Table.get_replicate_default _ i
  all_goals simp [State.driven]

end Sys2Proof.Machine
end

section
/-!
The bookkeeping of a marker: the phase of an epoch by the boundaries recorded, the missed runs and the gaps (R59, R88, R98,
R99).
-/

namespace Sys2Proof.Machine

-- ==== The phase of an epoch (R59) ====

section Phase

variable {q : Sequencer} {n a : Nat}

/-- A boundary not yet recorded, or recorded after the epoch. -/
theorem all_lt_iff {b : Option Nat} : b.all (n < ·) = true ↔ b = none ∨ ∃ a, b = some a ∧ n < a := by
  cases b <;> simp

/-- A boundary recorded at the epoch or before it. -/
theorem any_le_eq_false_iff {b : Option Nat} : b.any (· ≤ n) = false ↔ b = none ∨ ∃ a, b = some a ∧ n < a := by
  cases b <;> simp

theorem Sequencer.phaseOf_arming (h : q.s0 = none ∨ ∃ a, q.s0 = some a ∧ n < a) : q.phaseOf n = .arming :=
  if_pos (all_lt_iff.2 h)

theorem Sequencer.phaseOf_begun (h : q.s0 = some a) (ha : a ≤ n) : q.phaseOf n =
    if q.closing.any (· ≤ n) then .afterSweep else if q.m0.all (n < ·) then .settle else .measure :=
  if_neg (by simpa [h] using ha)

theorem Sequencer.phaseOf_afterSweep {c : Nat} (h : q.s0 = some a) (ha : a ≤ n) (hc : q.closing = some c)
    (hn : c ≤ n) : q.phaseOf n = .afterSweep :=
  (Sequencer.phaseOf_begun h ha).trans (if_pos (by simpa [hc] using hn))

theorem Sequencer.phaseOf_open (h : q.s0 = some a) (ha : a ≤ n)
    (hc : q.closing = none ∨ ∃ c, q.closing = some c ∧ n < c) : q.phaseOf n = if q.m0.all (n < ·) then .settle else .measure :=
  (Sequencer.phaseOf_begun h ha).trans (if_neg (by rw [any_le_eq_false_iff.2 hc]; decide))

theorem Sequencer.phaseOf_settle (h : q.s0 = some a) (ha : a ≤ n) (hc : q.closing = none ∨ ∃ c, q.closing = some c ∧ n < c)
    (hm : q.m0 = none ∨ ∃ m, q.m0 = some m ∧ n < m) : q.phaseOf n = .settle :=
  (Sequencer.phaseOf_open h ha hc).trans (if_pos (all_lt_iff.2 hm))

theorem Sequencer.phaseOf_measure {m : Nat} (h : q.s0 = some a) (ha : a ≤ n)
    (hc : q.closing = none ∨ ∃ c, q.closing = some c ∧ n < c) (hm : q.m0 = some m) (hn : m ≤ n) : q.phaseOf n = .measure :=
  (Sequencer.phaseOf_open h ha hc).trans (if_neg (by simpa [hm] using hn))

end Phase

-- ==== The missed run of a slot (R88, R98) ====

section Missed

variable {w : ReportWindow} {r : SlotRecord}

theorem owedTaken_iff {laneCount : Nat} :
    owedTaken laneCount w = true ↔ ∀ g, g < (laneCount + 7) / 8 → w.groups.getLsbD g = true := by
  simp [owedTaken]

theorem owedTaken_eq_false {laneCount g : Nat} (hg : g < (laneCount + 7) / 8) (h : w.groups.getLsbD g = false) :
    owedTaken laneCount w = false := by
  rw [← Bool.not_eq_true, owedTaken_iff]
  intro hall
  exact absurd (hall g hg) (by rw [h]; decide)

theorem SlotRecord.countMissed_inactive (h : r.state ≠ .active) : r.countMissed w = r := if_neg h

theorem SlotRecord.countMissed_reported (h : r.state = .active) (ht : owedTaken r.laneCount w = true) :
    r.countMissed w = { r with missed := 0 } :=
  (if_pos h).trans (if_pos ht)

theorem SlotRecord.countMissed_silent (h : r.state = .active) (ht : owedTaken r.laneCount w = false) :
    r.countMissed w = if r.missed < 2 then { r with missed := r.missed + 1 } else { r with missed := 3, state := .lost } := by
  have hlt : r.missed + 1 < 3 ↔ r.missed < 2 := by omega
  simp only [SlotRecord.countMissed, h, ht, hlt]
  rfl

end Missed

theorem gapAt_iff {s : State} {e : Nat} {o : Observation} : gapAt s e o = true ↔
    (s.slots.get (e / 32)).state = .active ∧ e % 32 < (s.slots.get (e / 32)).laneCount ∧
      (s.windows.get (e / 32)).lanes.getLsbD (e % 32) = false ∧ o.settled.isSome = true := by
  simp [gapAt, and_assoc]

-- ==== The bookkeeping of a marker (R98, R99) ====

section Bookkeep

variable {s : State} {n : Nat}

theorem SweepState.books_iff {w : SweepState} :
    w.books = true ↔ w = .settle ∨ w = .measure ∨ w = .reduce ∨ w = .aborting := by
  cases w <;> simp [SweepState.books]

theorem State.bookkeep_early (h : s.seq.epoch < 2) : s.bookkeep = s := if_neg fun hk => Nat.not_le_of_lt h hk.2

/-- A marker that books judges the epoch two below its own: a SETTLE epoch by the missed runs. -/
theorem State.bookkeep_settle (h : s.seq.epoch = n + 2) (hw : s.seq.sweep.books = true) (hp : s.seq.phaseOf n = .settle) :
    s.bookkeep = s.countMissedRuns := by
  simp [State.bookkeep, h, hw, hp]

/-- A MEASURE epoch by the gaps and the missed runs. -/
theorem State.bookkeep_measure (h : s.seq.epoch = n + 2) (hw : s.seq.sweep.books = true)
    (hp : s.seq.phaseOf n = .measure) : s.bookkeep = s.countGaps.countMissedRuns := by
  simp [State.bookkeep, h, hw, hp]

/-- An epoch that owes no report is not judged. -/
theorem State.bookkeep_notOwed (h : s.seq.epoch = n + 2) (hp : s.seq.phaseOf n = .arming ∨ s.seq.phaseOf n = .afterSweep) :
    s.bookkeep = s := by
  rcases hp with hp | hp <;> simp [State.bookkeep, h, hp]

/-- The slots of an epoch that owes reports. -/
theorem State.bookkeep_slots (h : s.seq.epoch = n + 2) (hw : s.seq.sweep.books = true)
    (hp : s.seq.phaseOf n = .settle ∨ s.seq.phaseOf n = .measure) :
    s.bookkeep.slots = s.slots.mapIdx fun i r => r.countMissed (s.windows.get i) := by
  rcases hp with hp | hp
  · rw [State.bookkeep_settle h hw hp, State.countMissedRuns_slots]
  · rw [State.bookkeep_measure h hw hp, State.countMissedRuns_slots, State.countGaps_slots, State.countGaps_windows]

end Bookkeep

/-- Settles O42: the boundaries are tried in order; then, by the phase of the judged epoch, the records of the two tables. -/
theorem markerBookkeeping : Obligations.MarkerBookkeeping := by
  refine ⟨fun q n => ⟨Sequencer.phaseOf_arming, fun a h ha => ⟨fun c hc hn => Sequencer.phaseOf_afterSweep h ha hc hn,
    fun hc => ⟨Sequencer.phaseOf_settle h ha hc, fun m hm hn => Sequencer.phaseOf_measure h ha hc hm hn⟩⟩⟩, ?_⟩
  intro s n
  refine ⟨?_, State.bookkeep_notOwed, fun h hp hw => ?_⟩
  · rintro (hearly | ⟨hs, hm, hr, ha⟩)
    · exact State.bookkeep_early hearly
    · refine State.bookkeep_eq_self (Bool.not_eq_true _ ▸ fun hbooks => ?_)
      rcases SweepState.books_iff.1 hbooks with hw | hw | hw | hw
      · exact hs hw
      · exact hm hw
      · exact hr hw
      · exact ha hw
  · have hbooks := SweepState.books_iff.2 hw
    have hslot {i : Nat} (hi : i < 24) :
        s.bookkeep.slots.get i = (s.slots.get i).countMissed (s.windows.get i) := by
      rw [State.bookkeep_slots h hbooks hp, Table.get_mapIdx _ _ hi]
    refine ⟨?_, ?_, fun hsettle => ?_, ?_⟩
    · rcases hp with hp | hp
      · rw [State.bookkeep_settle h hbooks hp]
        rfl
      · rw [State.bookkeep_measure h hbooks hp]
        rfl
    · rintro i _ hi rfl
      rw [hslot hi]
      exact ⟨SlotRecord.countMissed_inactive,
        fun hact hall => SlotRecord.countMissed_reported hact (owedTaken_iff.2 hall),
        fun hact ⟨g, hg, hmissing⟩ => SlotRecord.countMissed_silent hact (owedTaken_eq_false hg hmissing)⟩
    · rw [State.bookkeep_settle h hbooks hsettle, State.countMissedRuns_observations]
    · rintro hmeasure e _ he rfl
      rw [State.bookkeep_measure h hbooks hmeasure, State.countMissedRuns_observations, State.countGaps_observations,
        Table.get_mapIdx _ _ he]
      simp only [gapAt_iff]

end Sys2Proof.Machine
end

section
/-!
REPORT: the checks of the report in order, and what the part keeps of a report it takes (R87–R96).
-/

namespace Sys2Proof.Machine

-- ==== A report is judged by its owning block (R87, R184) ====

theorem reportEntry_eq {src : SourceId} {slot group count : Byte} {epoch : Half} {records : List LaneRecord}
    (hl : records.length = count.toNat) : reportEntry src slot epoch group count records =
      { cls := .probe, lengthOk := true, body := reportBody src slot epoch group count records } := by
  simp [reportEntry, hl]

theorem State.FromProbe.exec_report {s t : State} {rq : Requester} (h : s.FromProbe rq) {slot group count : Byte} {epoch : Half}
    {records : List LaneRecord} (hl : records.length = count.toNat) (hn : 5 + 15 * records.length ≤ 128) {r : Result}
    {p : List Byte}
    (hb : judgeReport rq.source slot.toNat epoch.toNat group.toNat count.toNat records s.quietLines =
      { state := t.quietLines, result := r, payload := p }) :
    exec (.report rq slot epoch group count records) s = .next (t.answered rq r p) := by
  show Host.Outcome.next (s.deliver rq (some (reportEntry rq.source slot epoch group count records)) _) = _
  rw [reportEntry_eq hl]
  exact congrArg Host.Outcome.next (h.deliver_eq hn hb)

-- ==== The checks (R89–R95) ====

/-- The sweep states that admit reports (R91). -/
theorem State.admitsReports_iff {s : State} : s.admitsReports = true ↔
    s.seq.sweep = .settle ∨ s.seq.sweep = .measure ∨ (∃ p, s.seq.sweep = .stopped p) ∨
      (s.seq.sweep = .reduce ∧ s.seq.reduceStart = some s.seq.epoch) := by
  unfold State.admitsReports
  cases s.seq.sweep <;> simp

theorem EpochPhase.owed_iff {p : EpochPhase} : p.owed = true ↔ p = .settle ∨ p = .measure := by
  cases p <;> simp [EpochPhase.owed]

/-- A skew field is the sign extension of its low 12 bits exactly when it lies in their range (R95). -/
theorem skew_extended_iff {h : Half} : h = (h.extractLsb' 0 12).signExtend 16 ↔ -2048 ≤ h.toInt ∧ h.toInt ≤ 2047 := by
  have hsample := skewSample_eq h
  have hlt := h.isLt
  rw [skewSample] at hsample
  rw [← BitVec.toInt_inj, BitVec.toInt_signExtend_of_le (by decide), hsample, BitVec.toInt_eq_toNat_cond]
  split <;> split <;> omega

/-- What R95 asks of one lane record. -/
def recordFits (g laneCount : Nat) (r : LaneRecord) : Prop :=
  8 * g ≤ r.lane.toNat ∧ r.lane.toNat ≤ 8 * g + 7 ∧ r.lane.toNat < laneCount ∧ r.errors.toNat ≤ 2 ^ 24 - 1 ∧
    -2048 ≤ r.skew.toInt ∧ r.skew.toInt ≤ 2047

theorem recordInRange_iff {g laneCount : Nat} {r : LaneRecord} :
    recordInRange g laneCount r = true ↔ recordFits g laneCount r := by
  simp only [recordInRange, recordFits, Bool.and_eq_true, decide_eq_true_eq, beq_iff_eq, skew_extended_iff, and_assoc]

theorem reportInRange_iff {g count laneCount : Nat} {records : List LaneRecord} :
    reportInRange g count laneCount records = true ↔
      g ≤ 3 ∧ 1 ≤ count ∧ count ≤ 8 ∧ (records.map LaneRecord.lane).Nodup ∧ ∀ r ∈ records, recordFits g laneCount r := by
  simp only [reportInRange, Bool.and_eq_true, decide_eq_true_eq, List.all_eq_true, recordInRange_iff, and_assoc]
  exact and_congr_right fun _ => and_congr_right fun _ => and_congr_right fun _ => and_comm

section Judge

variable {s : State} {src : SourceId} {slot n g count : Nat} {records : List LaneRecord}

theorem judgeReport_notOwned (h : ¬ (slot ≤ 23 ∧ (s.slots.get slot).source = some src)) :
    judgeReport src slot n g count records s = refuse .notEnrolled s :=
  if_pos ((Classical.not_and_iff_not_or_not.1 h).imp_left Nat.lt_of_not_le)

section Owned

variable (howned : slot ≤ 23 ∧ (s.slots.get slot).source = some src)

include howned

theorem judgeReport_owned : judgeReport src slot n g count records s =
    if (s.slots.get slot).state = .lost then refuse .lost s
    else if (s.slots.get slot).state ≠ .active ∨ s.admitsReports = false then refuse .notNow s
    else if s.seq.epoch ≤ n ∨ (s.seq.phaseOf n).owed = false then refuse .wrongEpoch s
    else if n + 2 ≤ s.seq.epoch then refuse .late s
    else if (s.windows.get slot).groups.getLsbD g then refuse .duplicate s
    else if reportInRange g count (s.slots.get slot).laneCount records then
      accept (reportPayload slot n g records.length ((s.windows.get slot).take g records))
        (s.takeReport slot n g records)
    else refuse .range s :=
  if_neg (by rintro (h | h) <;> [exact absurd howned.1 (Nat.not_le_of_lt h); exact h howned.2])

theorem judgeReport_lost (h : (s.slots.get slot).state = .lost) :
    judgeReport src slot n g count records s = refuse .lost s :=
  (judgeReport_owned howned).trans (if_pos h)

theorem judgeReport_notNow (hl : (s.slots.get slot).state ≠ .lost)
    (h : ¬ ((s.slots.get slot).state = .active ∧ s.admitsReports = true)) :
    judgeReport src slot n g count records s = refuse .notNow s := by
  rw [judgeReport_owned howned, if_neg hl, if_pos (by rwa [Classical.not_and_iff_not_or_not, Bool.not_eq_true] at h)]

variable (hactive : (s.slots.get slot).state = .active) (hadmits : s.admitsReports = true)

include hactive hadmits

theorem judgeReport_admitted : judgeReport src slot n g count records s =
    if s.seq.epoch ≤ n ∨ (s.seq.phaseOf n).owed = false then refuse .wrongEpoch s
    else if n + 2 ≤ s.seq.epoch then refuse .late s
    else if (s.windows.get slot).groups.getLsbD g then refuse .duplicate s
    else if reportInRange g count (s.slots.get slot).laneCount records then
      accept (reportPayload slot n g records.length ((s.windows.get slot).take g records))
        (s.takeReport slot n g records)
    else refuse .range s := by
  rw [judgeReport_owned howned, if_neg (by rw [hactive]; decide), if_neg (by simp [hactive, hadmits])]

theorem judgeReport_wrongEpoch (h : ¬ (n < s.seq.epoch ∧ (s.seq.phaseOf n).owed = true)) :
    judgeReport src slot n g count records s = refuse .wrongEpoch s := by
  rw [judgeReport_admitted howned hactive hadmits,
    if_pos (by rwa [Classical.not_and_iff_not_or_not, Nat.not_lt, Bool.not_eq_true] at h)]

variable (hpast : n < s.seq.epoch) (howed : (s.seq.phaseOf n).owed = true)

include hpast howed

theorem judgeReport_due : judgeReport src slot n g count records s =
    if n + 2 ≤ s.seq.epoch then refuse .late s
    else if (s.windows.get slot).groups.getLsbD g then refuse .duplicate s
    else if reportInRange g count (s.slots.get slot).laneCount records then
      accept (reportPayload slot n g records.length ((s.windows.get slot).take g records))
        (s.takeReport slot n g records)
    else refuse .range s := by
  rw [judgeReport_admitted howned hactive hadmits, if_neg (by simp [howed, hpast])]

theorem judgeReport_late (h : n + 2 ≤ s.seq.epoch) : judgeReport src slot n g count records s = refuse .late s :=
  (judgeReport_due howned hactive hadmits hpast howed).trans (if_pos h)

theorem judgeReport_duplicate (hlate : ¬ n + 2 ≤ s.seq.epoch) (h : (s.windows.get slot).groups.getLsbD g = true) :
    judgeReport src slot n g count records s = refuse .duplicate s := by
  rw [judgeReport_due howned hactive hadmits hpast howed, if_neg hlate, if_pos h]

variable (hlate : ¬ n + 2 ≤ s.seq.epoch) (hnew : ¬ (s.windows.get slot).groups.getLsbD g = true)

include hlate hnew

theorem judgeReport_outOfRange (h : ¬ reportInRange g count (s.slots.get slot).laneCount records = true) :
    judgeReport src slot n g count records s = refuse .range s := by
  rw [judgeReport_due howned hactive hadmits hpast howed, if_neg hlate, if_neg hnew, if_neg h]

theorem judgeReport_taken (h : reportInRange g count (s.slots.get slot).laneCount records = true) :
    judgeReport src slot n g count records s =
      accept (reportPayload slot n g records.length ((s.windows.get slot).take g records))
        (s.takeReport slot n g records) := by
  rw [judgeReport_due howned hactive hadmits hpast howed, if_neg hlate, if_neg hnew, if_pos h]

end Owned

end Judge

/-- Settles O44: each hypothesis names one check of `judgeReport`, and the checks before it have passed. -/
theorem reportRefusals : Obligations.ReportRefusals := by
  intro s rq slot group count epoch records owned lost admitted due late taken ranged h hl hn howned hlost hadmitted hdue
    hlate htaken hranged
  rw [← State.admitsReports_iff] at hadmitted
  rw [← EpochPhase.owed_iff] at hdue
  have hrange := hranged.trans (reportInRange_iff (g := group.toNat) (records := records)).symm
  have refused {r : Result} (hb : judgeReport rq.source slot.toNat epoch.toNat group.toNat count.toNat records s.quietLines =
      refuse r s.quietLines) : exec (.report rq slot epoch group count records) s = .next (s.answered rq r []) :=
    h.exec_report hl hn hb
  refine ⟨fun hno => refused (judgeReport_notOwned (mt howned.2 hno)),
    fun ho hd => refused (judgeReport_lost (howned.1 ho) (hlost.1 hd)),
    fun ho hd ha => refused (judgeReport_notNow (howned.1 ho) (mt hlost.2 hd) (mt hadmitted.2 ha)), ?_⟩
  refine ⟨fun ho ha hd => ?_, fun ho ha hd hk => ?_, fun ho ha hd hk ht => ?_, fun ho ha hd hk ht hr => ?_⟩
  all_goals obtain ⟨hactive, hadmits⟩ := hadmitted.1 ha
  · exact refused (judgeReport_wrongEpoch (howned.1 ho) hactive hadmits (mt hdue.2 hd))
  all_goals obtain ⟨hpast, howed⟩ := hdue.1 hd
  · exact refused (judgeReport_late (howned.1 ho) hactive hadmits hpast howed (hlate.1 hk))
  · exact refused (judgeReport_duplicate (howned.1 ho) hactive hadmits hpast howed (mt hlate.2 hk) (htaken.1 ht))
  · exact refused (judgeReport_outOfRange (howned.1 ho) hactive hadmits hpast howed (mt hlate.2 hk) (mt htaken.2 ht)
      (mt hrange.2 hr))

-- ==== A report that is taken (R96) ====

theorem State.hear_quietLines (rx : Nat) (tx : Option Nat) (s : State) :
    State.hear rx tx s.quietLines = (State.hear rx tx s).quietLines := by
  cases tx <;> rfl

theorem State.applyRecord_quietLines (measure : Bool) (rx : Nat) (r : LaneRecord) (s : State) :
    s.quietLines.applyRecord measure rx r = (s.applyRecord measure rx r).quietLines :=
  State.hear_quietLines rx _
    { s with observations := s.observations.set rx ((s.observations.get rx).apply s.generation measure r) }

theorem State.applyRecords_quietLines (measure : Bool) (slot : Nat) (records : List LaneRecord) (s : State) :
    s.quietLines.applyRecords measure slot records = (s.applyRecords measure slot records).quietLines := by
  unfold State.applyRecords
  induction records generalizing s with
  | nil => rfl
  | cons r l ih => rw [List.foldl_cons, List.foldl_cons, State.applyRecord_quietLines, ih]

theorem State.takeReport_quietLines (slot n g : Nat) (records : List LaneRecord) (s : State) :
    s.quietLines.takeReport slot n g records = (s.takeReport slot n g records).quietLines :=
  State.applyRecords_quietLines _ slot records
    { s with windows := s.windows.set slot ((s.windows.get slot).take g records) }

theorem twoPow_getLsbD {w i l : Nat} (hl : l < w) : (BitVec.twoPow w i).getLsbD l = (l == i) := by
  simp [hl, Bool.beq_eq_decide_eq]

/-- The lanes that the records add to those of an accumulator. -/
theorem foldl_laneSet_getLsbD (records : List LaneRecord) (acc : BitVec 32) {l : Nat} (hl : l < 32) :
    (records.foldl (fun acc r => acc ||| BitVec.twoPow 32 r.lane.toNat) acc).getLsbD l =
      (acc.getLsbD l || records.any fun r => l == r.lane.toNat) := by
  induction records generalizing acc with
  | nil => simp
  | cons r records ih =>
    rw [List.foldl_cons, ih, BitVec.getLsbD_or, twoPow_getLsbD hl, List.any_cons, Bool.or_assoc]

theorem laneSet_getLsbD (records : List LaneRecord) {l : Nat} (hl : l < 32) :
    (laneSet records).getLsbD l = records.any fun r => l == r.lane.toNat := by
  rw [laneSet, foldl_laneSet_getLsbD records 0 hl]
  simp

/-- The window with a taken report, by its groups and its lanes (R93, R96). -/
theorem ReportWindow.eq_take {x w : ReportWindow} {g : Nat} {records : List LaneRecord}
    (hg : ∀ i, w.groups.getLsbD i = (x.groups.getLsbD i || i == g))
    (hl : ∀ l, w.lanes.getLsbD l = (x.lanes.getLsbD l || records.any fun r => l == r.lane.toNat)) :
    w = x.take g records := by
  have hgroups : w.groups = x.groups ||| BitVec.twoPow 4 g := by
    refine BitVec.eq_of_getLsbD_eq fun i hi => ?_
    rw [hg, BitVec.getLsbD_or, twoPow_getLsbD hi]
  have hlanes : w.lanes = x.lanes ||| laneSet records := by
    refine BitVec.eq_of_getLsbD_eq fun l h => ?_
    rw [hl, BitVec.getLsbD_or, laneSet_getLsbD records h]
  show (⟨w.groups, w.lanes⟩ : ReportWindow) = ⟨_, _⟩
  rw [hgroups, hlanes]

/-- Settles O43: every check passes, and the window of the statement is the one the report makes. -/
theorem reportTaken : Obligations.ReportTaken := by
  intro s t rq slot group count epoch records w h hslot hsource hactive hsweep hepoch hphase hnew hg hc hc' hl hnodup hfit
    hgroups hlanes ht
  obtain rfl := ReportWindow.eq_take hgroups hlanes
  have hbody := judgeReport_taken (s := s.quietLines) ⟨hslot, hsource⟩ hactive (State.admitsReports_iff.2 hsweep)
    (n := epoch.toNat) (by rw [State.quietLines_seq]; omega) (EpochPhase.owed_iff.2 hphase)
    (by rw [State.quietLines_seq]; omega) (Bool.not_eq_true _ ▸ hnew)
    (reportInRange_iff.2 ⟨hg, hc, hc', hnodup, hfit⟩)
  rw [State.takeReport_quietLines] at hbody
  subst ht
  refine answered_spelled (h.exec_report hl (by omega) hbody) ?_
  simp [reportPayload, be_one, be_two, byte_toNat, hl]

end Sys2Proof.Machine
end

section
/-!
Settling: what a lane record does to an unsettled observation record, and the hearers list that a settled one joins (R106, R107,
R108, R120).
-/

namespace Sys2Proof.Machine

-- ==== Settle tracking (R107, R108) ====

section Track

variable {o : Observation} {raw : Word} {cls : SettledClass} {heard : Nat} (inverted : Bool)

theorem Observation.track_unreadable {c : Classified} (h : c = .none ∨ c = .garbled) :
    o.track raw c = { o with lockRun := 0, candidate := none } := by
  rcases h with rfl | rfl <;> rfl

theorem Observation.track_begins (h : o.candidate ≠ some raw) :
    o.track raw (.valid cls heard inverted) = { o with lockRun := 1, candidate := some raw } := if_neg h

theorem Observation.track_raises (h : o.candidate = some raw) (hrun : o.lockRun ≠ 2) :
    o.track raw (.valid cls heard inverted) = { o with lockRun := o.lockRun + 1 } := by
  simp [Observation.track, Observation.run, h, hrun]

theorem Observation.track_settles (h : o.candidate = some raw) (hrun : o.lockRun = 2) :
    o.track raw (.valid cls heard inverted) =
      { o with lockRun := 3, settled := some { cls := cls, word := raw, heard := heard } } := by
  simp [Observation.track, Observation.run, h, hrun]

end Track

-- ==== The hearers list a receive end joins (R108, R120) ====

theorem joins_unsettled {before after : Observation} (h : after.settled = none) : joins before after = none := by
  cases hb : before.settled <;> simp [joins, hb, h]

theorem joins_stale {before after : Observation} {x : Settled} (h : after.settled = some x) (hx : x.cls = .stale) :
    joins before after = none := by
  cases hb : before.settled <;> simp [joins, hb, h, hx]

theorem joins_heard {before after : Observation} {x : Settled} (hb : before.settled = none) (h : after.settled = some x)
    (hx : x.cls ≠ .stale) : joins before after = some x.heard := by
  cases hc : x.cls with
  | stale => exact absurd hc hx
  | direct | inverted => simp [joins, hb, h, hc]

-- ==== A lane record in the state ====

section Record

variable {s : State} {measure : Bool} {rx : Nat} {r : LaneRecord} {after : Observation}

theorem State.applyRecord_alone (ha : (s.observations.get rx).apply s.generation measure r = after)
    (hj : joins (s.observations.get rx) after = none) :
    s.applyRecord measure rx r = { s with observations := s.observations.set rx after } := by
  simp only [State.applyRecord, ha, hj, State.hear]

theorem State.applyRecord_heard (ha : (s.observations.get rx).apply s.generation measure r = after) {tx : Nat}
    (hj : joins (s.observations.get rx) after = some tx) :
    s.applyRecord measure rx r =
      { s with
        observations := s.observations.set rx after
        hearing := s.hearing.set tx ((s.hearing.get tx).join rx) } := by
  simp only [State.applyRecord, ha, hj, State.hear]

end Record

/-- Settles O45: the record's own change is that of the seen flags and then of settle tracking, and a hearers list is joined
exactly where the record settles on a word that is not STALE. -/
theorem laneRecordsSettle : Obligations.LaneRecordsSettle := by
  rintro s rx r _ seen c - rfl hnone hc hseen
  obtain rfl : seen = (s.observations.get rx).see r.lock c := by
    rw [hseen]
    cases c <;> rfl
  have hmeasure := Observation.apply_of_unsettled s.generation r hnone true
  have htrack := Observation.apply_of_unsettled s.generation r hnone false
  rw [hc] at hmeasure htrack
  refine ⟨State.applyRecord_alone hmeasure (joins_unsettled hnone), fun hbad => ?_, ?_⟩
  · exact State.applyRecord_alone (htrack.trans (Observation.track_unreadable hbad)) (joins_unsettled hnone)
  · rintro cls heard inverted rfl
    refine ⟨fun hnew => ?_, fun hsame hrun => ?_, ?_⟩
    · exact State.applyRecord_alone (htrack.trans (Observation.track_begins inverted hnew)) (joins_unsettled hnone)
    · exact State.applyRecord_alone (htrack.trans (Observation.track_raises inverted hsame hrun)) (joins_unsettled hnone)
    · rintro hsame hrun settled rfl
      have hafter := htrack.trans (Observation.track_settles inverted hsame hrun)
      refine ⟨fun hstale => ?_, ?_⟩
      · exact State.applyRecord_alone hafter (joins_stale rfl hstale)
      · rintro hcls _ rfl
        exact State.applyRecord_heard hafter (joins_heard (x := ⟨cls, r.raw, heard⟩) hnone rfl hcls)

end Sys2Proof.Machine
end

section
/-!
A step of the pass: where the position moves on to, the finding a step offers, and the commands of the engine where it takes no
step (R140, R141, R153–R156).
-/

namespace Sys2Proof.Machine

-- ==== The position moves on (R140, R155) ====

section Advance

variable {s : State} {i j k e : Nat}

theorem State.lt_of_used (h : s.links.get j ≠ none) : j < 512 :=
  Nat.lt_of_not_le fun hle => h (Table.get_outside s.links hle)

/-- The next link of the pass is the lowest one in use. -/
theorem State.usedIdFrom_eq_some (hij : i ≤ j) (hj : s.links.get j ≠ none)
    (hlow : ∀ m, i ≤ m → m < j → s.links.get m = none) : s.usedIdFrom i = some j := by
  cases hfirst : s.usedIdFrom i with
  | none =>
    have hfree := Table.first_eq_none.1 hfirst j (State.lt_of_used hj)
    simp [hij, hj] at hfree
  | some m =>
    obtain ⟨-, hm, hbelow⟩ := Table.first_eq_some hfirst
    obtain ⟨him, hused⟩ : i ≤ m ∧ s.links.get m ≠ none := by simpa [Option.ne_none_iff_isSome] using hm
    have hle : ¬ m < j := fun hlt => hused (hlow m him hlt)
    have hge : ¬ j < m := fun hlt => by
      have hfree := hbelow j hlt
      simp [hij, hj] at hfree
    rw [show m = j by omega]

theorem State.usedIdFrom_eq_none (h : ∀ m, i ≤ m → s.links.get m = none) : s.usedIdFrom i = none := by
  refine Table.first_eq_none.2 fun m _ => ?_
  by_cases him : i ≤ m
  · simp [h m him]
  · simp [him]

theorem State.advance_link (hs : s.cursor.stage = .links) (hp : s.cursor.position = some k) (hj : s.usedIdFrom (k + 1) = some j) :
    s.advance = { s with cursor := { s.cursor with position := some j } } := by
  simp only [State.advance, hs, hp, hj]

theorem State.advance_lastLink (hs : s.cursor.stage = .links) (hp : s.cursor.position = some k)
    (hj : s.usedIdFrom (k + 1) = none) :
    s.advance = { s with cursor := { s.cursor with stage := .unplanned, position := some 0 } } := by
  simp only [State.advance, hs, hp, hj]

theorem State.advance_endpoint (hs : s.cursor.stage = .unplanned) (hp : s.cursor.position = some e) (he : e < 767) :
    s.advance = { s with cursor := { s.cursor with position := some (e + 1) } } := by
  simp only [State.advance, hs, hp]
  exact if_pos (by omega)

theorem State.advance_lastEndpoint (hs : s.cursor.stage = .unplanned) (hp : s.cursor.position = some 767) :
    s.advance = s.finishPass := by
  simp only [State.advance, hs, hp]
  rfl

end Advance

-- ==== The pass does not see the lines ====

section Lines

variable (s : State)

theorem State.finishPass_quietLines : s.quietLines.finishPass = s.finishPass.quietLines := by
  unfold State.finishPass
  dsimp only
  rw [apply_ite State.quietLines]
  rfl

theorem State.advance_quietLines : s.quietLines.advance = s.advance.quietLines := by
  have hused (k : Nat) : s.quietLines.usedIdFrom k = s.usedIdFrom k := rfl
  have hcursor : s.quietLines.cursor = s.cursor := rfl
  unfold State.advance
  simp only [hcursor, hused]
  split
  · split <;> rfl
  · rw [apply_ite State.quietLines, State.finishPass_quietLines]
    rfl
  · rfl

theorem State.offer_quietLines (f : Finding) : s.quietLines.offer f = (s.offer f).quietLines := by
  have hpushed := State.advance_quietLines (s.pushFinding f)
  unfold State.offer
  rw [apply_ite State.quietLines, ← hpushed]
  rfl

theorem State.pushPending_quietLines (f : Finding) : s.quietLines.pushPending f = (s.pushPending f).quietLines :=
  State.advance_quietLines (State.pushFinding f { s with cursor := { s.cursor with pendingFinding := none } })

theorem State.stepLink_quietLines (k : Nat) (l : Link) : s.quietLines.stepLink k l = (s.stepLink k l).quietLines := by
  unfold State.stepLink
  dsimp only
  rw [apply_ite State.quietLines, ← State.advance_quietLines, ← State.offer_quietLines]
  rfl

theorem State.stepUnplanned_quietLines (e : Nat) : s.quietLines.stepUnplanned e = (s.stepUnplanned e).quietLines := by
  unfold State.stepUnplanned
  dsimp only
  rw [apply_ite State.quietLines, ← State.advance_quietLines, ← State.offer_quietLines]
  rfl

end Lines

-- ==== The commands of the engine (R140, R156) ====

section Commands

variable {s : State} {k e : Nat} {l : Link}

theorem SweepState.evaluates_iff {w : SweepState} : w.evaluates = true ↔ w = .reduce ∨ ∃ p, w = .halted p := by
  cases w <;> simp [SweepState.evaluates]

theorem exec_linkEvaluationStep_taken (h : s.nextLink = some (k, l)) :
    exec .linkEvaluationStep s = .next ((s.stepLink k l).driven false) := by
  have hnext : s.quietLines.nextLink = some (k, l) := h
  calc exec .linkEvaluationStep s
      = .next (s.quietLines.stepLink k l).driveAttn := by simp only [exec, execLinkEvaluationStep, hnext]
    _ = .next ((s.stepLink k l).driven false) := by
        rw [State.stepLink_quietLines]
        rfl

theorem exec_linkEvaluationStep_waits (h : s.nextLink = none) : exec .linkEvaluationStep s = .next (s.showing .none) := by
  have hnext : s.quietLines.nextLink = none := h
  simp only [exec, execLinkEvaluationStep, hnext]
  rfl

theorem exec_unplannedScanStep_taken (h : s.nextUnplanned = some e) :
    exec .unplannedScanStep s = .next ((s.stepUnplanned e).driven false) := by
  have hnext : s.quietLines.nextUnplanned = some e := h
  calc exec .unplannedScanStep s
      = .next (s.quietLines.stepUnplanned e).driveAttn := by simp only [exec, execUnplannedScanStep, hnext]
    _ = .next ((s.stepUnplanned e).driven false) := by
        rw [State.stepUnplanned_quietLines]
        rfl

theorem exec_unplannedScanStep_waits (h : s.nextUnplanned = none) :
    exec .unplannedScanStep s = .next (s.showing .none) := by
  have hnext : s.quietLines.nextUnplanned = none := h
  simp only [exec, execUnplannedScanStep, hnext]
  rfl

theorem State.nextLink_taken (hw : s.seq.sweep = .reduce ∨ ∃ p, s.seq.sweep = .halted p) (hs : s.cursor.stage = .links)
    (hp : s.cursor.pendingFinding = none) (hk : s.cursor.position = some k) (hl : s.links.get k = some l) :
    s.nextLink = some (k, l) := by
  rw [State.nextLink, if_pos ⟨SweepState.evaluates_iff.2 hw, hs, hp⟩, hk]
  simp only [hl, Option.map_some]

theorem State.nextUnplanned_taken (hw : s.seq.sweep = .reduce ∨ ∃ p, s.seq.sweep = .halted p)
    (hs : s.cursor.stage = .unplanned) (hp : s.cursor.pendingFinding = none) (he : s.cursor.position = some e) :
    s.nextUnplanned = some e := by
  rw [State.nextUnplanned, if_pos ⟨SweepState.evaluates_iff.2 hw, hs, hp⟩, he]

/-- The engine does not work in this sweep state, or waits with a finding it holds. -/
def State.Waits (s : State) : Prop :=
  (s.seq.sweep ≠ .reduce ∧ ∀ p, s.seq.sweep ≠ .halted p) ∨ s.cursor.pendingFinding.isSome = true

theorem State.Waits.not_working (h : s.Waits) : ¬ (s.seq.sweep.evaluates = true ∧ s.cursor.pendingFinding = none) := by
  rintro ⟨hw, hp⟩
  rcases h with ⟨hreduce, hhalted⟩ | hheld
  · rcases SweepState.evaluates_iff.1 hw with hw | ⟨p, hw⟩
    · exact hreduce hw
    · exact hhalted p hw
  · rw [hp] at hheld
    exact absurd hheld (by decide)

theorem State.nextLink_none (h : s.Waits ∨ s.cursor.stage ≠ .links) : s.nextLink = none :=
  if_neg fun ⟨hw, hs, hp⟩ => h.elim (fun hwaits => hwaits.not_working ⟨hw, hp⟩) fun hne => hne hs

theorem State.nextUnplanned_none (h : s.Waits ∨ s.cursor.stage ≠ .unplanned) : s.nextUnplanned = none :=
  if_neg fun ⟨hw, hs, hp⟩ => h.elim (fun hwaits => hwaits.not_working ⟨hw, hp⟩) fun hne => hne hs

end Commands

-- ==== What a step does (R141, R153, R154, R156) ====

section Steps

variable {s : State} {k e : Nat} {l : Link} {f : Finding}

theorem State.offer_pushed (h : s.findings.length < 64) : s.offer f = (s.pushFinding f).advance := if_pos h

theorem State.offer_held (h : 64 ≤ s.findings.length) :
    s.offer f = { s with cursor := { s.cursor with pendingFinding := some f } } := if_neg (Nat.not_lt.2 h)

theorem State.stepLink_pass (h : (s.evaluate l).verdict = .pass) :
    s.stepLink k l = (s.writeVerdict k (s.evaluate l)).advance := if_pos h

theorem State.stepLink_offers (h : (s.evaluate l).verdict ≠ .pass) :
    s.stepLink k l = (s.writeVerdict k (s.evaluate l)).offer (s.linkFinding k l (s.evaluate l)) := if_neg h

theorem State.stepUnplanned_passes (h : (s.observations.get e).planned.isSome = true ∨ (s.observations.get e).settled = none) :
    s.stepUnplanned e = s.advance :=
  if_neg fun ⟨hp, hs⟩ => by
    rcases h with h | h
    · rw [Option.isNone_iff_eq_none.1 hp] at h
      exact absurd h (by decide)
    · rw [h] at hs
      exact absurd hs (by decide)

theorem State.stepUnplanned_offers {x : Settled} (hp : (s.observations.get e).planned = none)
    (hs : (s.observations.get e).settled = some x) :
    s.stepUnplanned e = s.offer (unplannedFinding e (s.observations.get e)) :=
  if_pos (by simp [hp, hs])

end Steps

/-- Settles O51: the position by the next link in use, the two steps by what they offer, and the engine's waiting. -/
theorem engineSteps : Obligations.EngineSteps := by
  refine ⟨fun s k hs hp => ⟨fun j hkj hj hlow => ?_, fun hnone => ?_⟩, fun s e hs hp => ⟨fun he => ?_, ?_⟩, ?_, ?_,
    fun s => ⟨fun hw => ⟨?_, ?_⟩, fun hs => ?_, fun hs => ?_⟩⟩
  · exact State.advance_link hs hp (State.usedIdFrom_eq_some hkj hj hlow)
  · exact State.advance_lastLink hs hp (State.usedIdFrom_eq_none hnone)
  · exact State.advance_endpoint hs hp he
  · rintro rfl done rfl
    rw [State.advance_lastEndpoint hs hp]
    refine ⟨fun hw hq => if_pos ⟨hw, hq⟩, fun hno => if_neg fun hk => ?_⟩
    exact hno.elim (fun hw => hw hk.1) fun hq => hq hk.2
  · rintro s t k l _ f _ hw hs hp hk hl rfl rfl rfl rfl
    rw [exec_linkEvaluationStep_taken (State.nextLink_taken hw hs hp hk hl)]
    refine ⟨fun hpass => ?_, fun hfail hroom => ?_, fun hfail hfull => ?_⟩
    · rw [State.stepLink_pass hpass]
      rfl
    · rw [State.stepLink_offers hfail, State.offer_pushed (s := s.writeVerdict k (s.evaluate l)) hroom]
      rfl
    · rw [State.stepLink_offers hfail, State.offer_held (s := s.writeVerdict k (s.evaluate l)) hfull]
      rfl
  · rintro s e _ hw hs hp he rfl
    rw [exec_unplannedScanStep_taken (State.nextUnplanned_taken hw hs hp he)]
    refine ⟨fun hskip => by rw [State.stepUnplanned_passes hskip], ?_⟩
    rintro x _ hplanned hsettled rfl
    have hheard : (s.observations.get e).heardItem = some { endpoint := x.heard, cls := x.cls } := by
      rw [Observation.heardItem, hsettled, Option.map_some]
    rw [State.stepUnplanned_offers hplanned hsettled, unplannedFinding, hheard]
    refine ⟨fun hroom => ?_, fun hfull => ?_⟩
    · rw [State.offer_pushed hroom]
      rfl
    · rw [State.offer_held hfull]
      rfl
  · exact exec_linkEvaluationStep_waits (State.nextLink_none (.inl hw))
  · exact exec_unplannedScanStep_waits (State.nextUnplanned_none (.inl hw))
  · exact exec_linkEvaluationStep_waits (State.nextLink_none (.inr hs))
  · exact exec_unplannedScanStep_waits (State.nextUnplanned_none (.inr hs))

end Sys2Proof.Machine
end

section
/-!
The station's requests on the finding queue: the bytes of a finding, and the head removed (R156, R164, R166, R167, R189).
-/

namespace Sys2Proof.Machine

-- ==== The requests ====

namespace State.FromStation

variable {s t : State} {rq : Requester} (h : s.FromStation rq) {r : Result} {p : List Byte}
include h

theorem exec_peekFinding (hb : peekFindingBody s.quietLines = { state := t.quietLines, result := r, payload := p }) :
    exec (.peekFinding rq) s = .next (t.answered rq r p) := congrArg Host.Outcome.next (h.deliver_eq (by decide) hb)

theorem exec_releaseFinding {n : Half}
    (hb : releaseFindingBody n s.quietLines = { state := t.quietLines, result := r, payload := p }) :
    exec (.releaseFinding rq n) s = .next (t.answered rq r p) := congrArg Host.Outcome.next (h.deliver_eq (by decide) hb)

end State.FromStation

-- ==== The bytes of a finding (R162, R189) ====

theorem optionalBytes_some (k n : Nat) : optionalBytes k (some n) = 1 :: be k n := rfl

theorem heardBytes_eq (x : Option Heard) : heardBytes x =
    match x with
    | none => [0, 0, 0, 0]
    | some x => [1] ++ twoBytes x.endpoint ++ [byte x.cls.code] := by
  cases x with
  | none => rfl
  | some x => simp [heardBytes, be_one, be_two]

theorem FindingKind.code_byte (k : FindingKind) : byte k.code = match k with | .link => 0 | .unplanned => 1 := by
  cases k <;> rfl

-- ==== The head of the queue (R166, R167) ====

section Queue

variable {s : State} {head : QueuedFinding} {rest : List QueuedFinding} {n : Half}

theorem peekFindingBody_empty (h : s.findings = []) : peekFindingBody s = refuse .empty s := by
  rw [peekFindingBody, h]

theorem peekFindingBody_head (h : s.findings = head :: rest) : peekFindingBody s = accept (s.peekPayload head) s := by
  rw [peekFindingBody, h]

theorem releaseFindingBody_empty (h : s.findings = []) : releaseFindingBody n s = refuse .empty s := by
  rw [releaseFindingBody, h]

theorem releaseFindingBody_other (h : s.findings = head :: rest) (hn : n.toNat ≠ head.seq) :
    releaseFindingBody n s = refuseWith .mismatch (be 2 head.seq ++ be 1 s.findings.length) s := by
  simp only [releaseFindingBody, h, if_neg hn]

theorem releaseFindingBody_head (h : s.findings = head :: rest) (hn : n.toNat = head.seq) :
    releaseFindingBody n s = releaseHead head rest s := by
  simp only [releaseFindingBody, h, if_pos hn]

theorem releaseHead_alone (h : s.cursor.pendingFinding = none) : releaseHead head rest s =
    accept (releasePayload head.seq false { s with findings := rest }) { s with findings := rest } := by
  simp only [releaseHead, h]

theorem releaseHead_pushes {p : Finding} (h : s.cursor.pendingFinding = some p) : releaseHead head rest s =
    accept (releasePayload head.seq true (State.pushPending p { s with findings := rest }))
      (State.pushPending p { s with findings := rest }) := by
  simp only [releaseHead, h]

theorem State.pushPending_findings (p : Finding) :
    (s.pushPending p).findings = s.findings ++ [{ seq := s.nextSeq, finding := p }] :=
  State.advance_findings _

end Queue

/-- Settles O52: the codes and the encodings evaluate; then the two requests by the head of the queue. -/
theorem findingQueueRequests : Obligations.FindingQueueRequests := by
  refine ⟨by decide, by decide, ⟨optionalBytes_none 1, fun n => ?_⟩, ⟨optionalBytes_none 2, fun n => ?_⟩, ?_⟩
  · rw [optionalBytes_some, be_one]
  · rw [optionalBytes_some, be_two]
  intro s rq h
  refine ⟨fun hempty => h.exec_peekFinding (peekFindingBody_empty (s := s.quietLines) hempty),
    fun hempty n => h.exec_releaseFinding (releaseFindingBody_empty (s := s.quietLines) hempty), ?_⟩
  rintro head rest _ hq rfl
  refine ⟨?_, fun n hn => ?_, fun n hn hp => ?_, fun n p hn hp => ?_⟩
  · refine answered_spelled (h.exec_peekFinding (peekFindingBody_head (s := s.quietLines) hq)) ?_
    have hlength : s.quietLines.findings.length = rest.length + 1 := congrArg List.length hq
    rw [State.peekPayload, hlength]
    simp only [QueuedFinding.payload, be_one, be_two, FindingKind.code_byte, heardBytes_eq, Notes.byte_eq]
    simp only [List.append_assoc, List.singleton_append] <;> rfl
  · refine answered_spelled (h.exec_releaseFinding (releaseFindingBody_other (s := s.quietLines) hq hn)) ?_
    have hlength : s.quietLines.findings.length = rest.length + 1 := congrArg List.length hq
    rw [be_two, be_one, hlength]
  · have hbody := (releaseFindingBody_head (s := s.quietLines) hq hn).trans (releaseHead_alone hp)
    refine answered_spelled (h.exec_releaseFinding (t := { s with findings := rest }) hbody) ?_
    simp only [releasePayload, be_two, be_one, List.append_assoc]
    rfl
  · have hbody := (releaseFindingBody_head (s := s.quietLines) hq hn).trans (releaseHead_pushes hp)
    have hquiet := State.pushPending_quietLines { s with findings := rest } p
    refine answered_spelled (h.exec_releaseFinding (t := State.pushPending p { s with findings := rest })
      (hbody.trans (congrArg (fun t => accept _ t) hquiet))) ?_
    simp only [releasePayload, State.quietLines_findings, State.pushPending_findings, List.length_append, be_two, be_one,
      List.append_assoc]
    rfl

end Sys2Proof.Machine
end
